-- ==== Sys2Proof/Config.lean ====
section
/-!
DEFINITION. What the part fixes once: capacities, fixed limits and the address straps that the model assumes at reset.
The SQ8's manual leaves no value of an instruction open, so there is no opaque free value here.
-/

namespace Sys2Proof.Config

/-- R179: the event queue holds at most 32 records. -/
def eventCapacity : Nat := 32

/-- R162: the stale limit of a gauge or folder field. -/
def fixedStaleLimit : Nat := 3

/-- R158: a web speed above this many mm/s is held as this. -/
def maxWebSpeed : Nat := 25000

/-- R168: a reply area longer than 64 slots is taken as 64. -/
def maxReplyArea : Nat := 64

/-- R192: the node address is whatever the straps read.
DESIGN CHOICE (log entry 5), unsafe: the machine right after reset is given the straps of node 1. -/
def strapsAtReset : BitVec 4 := 1

end Sys2Proof.Config
end

