-- ==== Sys2Proof/Word.lean ====
section
/-!
DEFINITION. Words, frames as they arrive at IN, and the names of the input fields and of the pieces of a frame's work.
These are the types that commands carry.
-/

namespace Sys2Proof

/-- A slot or header word of a frame: 32 bits, bit 0 the least significant (chapter 10). -/
abbrev Word := BitVec 32

/-- A stand, 0 to 7. -/
abbrev StandNo := Fin 8

/-- A folder group, 0 to 3. -/
abbrev GroupNo := Fin 4

/-- A diameter gauge, 0 to 3. -/
abbrev GaugeNo := Fin 4

/-- R185: a frame is a header of three words and then its slots, numbered from 0. -/
structure Frame where
  head0 : Word
  head1 : Word
  head2 : Word
  slots : List Word
  deriving DecidableEq, Repr, Inhabited

/-- R160: the sixteen input fields that the Sample Monitor judges. -/
inductive InputField where
  | stand (n : StandNo)
  | gauge (g : GaugeNo)
  | folder (g : GroupNo)
  deriving DecidableEq, Repr, Inhabited

/-- R164: the pieces of the work that an accepted cycle frame gives to the blocks.
A block's own pieces keep the order its rule gives (R8, R116, R130); pieces of different blocks have none. -/
inductive Work where
  /-- R161: the Sample Monitor judges the field. -/
  | judge (f : InputField)
  /-- R162: the stale test that follows a repeat of the field. -/
  | stale (f : InputField)
  /-- R138: the missed test of the stand's tracker entry at the return of the ring. -/
  | recover (n : StandNo)
  /-- R130 step 2: the HOLD checkpoints of the stand's tracker entry. -/
  | holds (n : StandNo)
  /-- R130 step 3: the reject point of the stand's tracker entry. -/
  | reject (n : StandNo)
  /-- R130 step 4: the clearance point of the stand's tracker entry. -/
  | clear (n : StandNo)
  /-- R8 steps 1 and 2: the stand's sample. -/
  | sample (n : StandNo)
  /-- R8 step 3: the stand's deadlines. -/
  | deadline (n : StandNo)
  /-- R116 step 1, first part: a result in MEASURING, the end of a cancel in CANCELLING. -/
  | result (g : GaugeNo)
  /-- R116 step 1, second part: the start of a measurement. -/
  | start (g : GaugeNo)
  /-- R116 step 3: the gauge's deadline. -/
  | timeout (g : GaugeNo)
  /-- R97: the consideration of a grant for the group. -/
  | grant (g : GroupNo)
  deriving DecidableEq, Repr, Inhabited

/-- The order in which one frame's work is taken, which R164 leaves open (DESIGN CHOICE, log entry 1): the pieces of `first` in their
order, then all the others but those of `later`, which stay due for the commands that follow. `grantFirst` names the groups
whose grant at this frame is taken before a pending group-table load that a release would apply (R143: either may be first). -/
structure Plan where
  first : List Work := []
  later : List Work := []
  grantFirst : List GroupNo := []
  deriving DecidableEq, Repr, Inhabited

/-- R166: an owner that acts on ring loss. -/
inductive LossOwner where
  | stand (n : StandNo)
  | gauge (g : GaugeNo)
  deriving DecidableEq, Repr, Inhabited

end Sys2Proof
end

