-- ==== Sys2Proof/Machine/Layout.lean ====
section
/-!
DEFINITION. Bit positions of slots, and the headers and request areas of frames (R184, R185, R186, R190).
-/

namespace Sys2Proof.Machine

/-- R184: the unsigned number in the `len` bits of `w` from bit `lo` on. -/
def bits (w : Word) (lo len : Nat) : Nat := (w.extractLsb' lo len).toNat

/-- One bit of a slot as a yes or no. -/
def bitOf (w : Word) (i : Nat) : Bool := w.getLsbD i

/-- R184: the number `v` placed at bit `lo` of an otherwise zero slot. -/
def place (v lo : Nat) : Word := BitVec.ofNat 32 (v <<< lo)

/-- A yes or no placed at one bit of a slot. -/
def placeBit (b : Bool) (lo : Nat) : Word := if b then place 1 lo else 0

/-- Slot `i` of a run of slots. -/
def slotAt (ws : List Word) (i : Nat) : Word := ws.getD i 0

/-- R185: the frame kind, bits 24 to 31 of header word 0. -/
def frameKind (f : Frame) : Nat := bits f.head0 24 8

/-- R185: the cycle number of a cycle frame. -/
def frameCycle (f : Frame) : BitVec 16 := f.head0.extractLsb' 0 16

/-- R185: the ring time of a cycle frame. -/
def frameTime (f : Frame) : BitVec 32 := f.head1

/-- R185: the cycle period of a cycle frame, in µs. -/
def framePeriod (f : Frame) : Nat := f.head2.toNat

/-- R146: the slot count of a frame. -/
def slotCount (f : Frame) : Nat := f.slots.length

/-- R185: the destination address of a service frame. -/
def destination (f : Frame) : BitVec 4 := f.head0.extractLsb' 16 4

/-- R185: the request area length that the header of a service frame gives. -/
def requestLength (f : Frame) : Nat := bits f.head0 0 8

/-- R185: the reply area length that the header of a service frame gives. -/
def replyLength (f : Frame) : Nat := bits f.head1 0 8

/-- R185, R186: the request area, the slots from 0 on; none where its length is above the slots that the frame carries. -/
def requestArea (f : Frame) : Option (List Word) :=
  if requestLength f ≤ slotCount f then some (f.slots.take (requestLength f)) else none

/-- R168, R186: the slots of the reply area that the Service Responder may write: at most 64, and none beyond the end
of the frame. -/
def replyRoom (f : Frame) : Nat :=
  min (min (replyLength f) Config.maxReplyArea) (slotCount f - requestLength f)

/-- Slots written over a run of slots from `base` on. -/
def writeSlots (slots : List Word) (base : Nat) (ws : List Word) : List Word :=
  slots.take base ++ ws ++ slots.drop (base + ws.length)

/-- R185: the reply is written into the first slots of the reply area, which follows the request area. -/
def writeReply (f : Frame) (reply : List Word) : Frame :=
  { f with slots := writeSlots f.slots (requestLength f) reply }

/-- R185, R186: frame kind 2 is a service frame. -/
def isService (f : Frame) : Bool := frameKind f == 2

/-- R190: the request kind, in bits 0 to 7 of slot 0 of the request area. -/
def requestKind (f : Frame) : Option Nat :=
  ((requestArea f).bind (·[0]?)).map fun w => bits w 0 8

/-- Slot 1 of the request area, where there is one. -/
def requestParameter (f : Frame) : Option Word := (requestArea f).bind (·[1]?)

/-- R190: the table kind of a table request. -/
def tableKind (f : Frame) : Option Nat := (requestParameter f).map fun w => bits w 0 8

/-- R190: the order kind of a STAND ORDER or GROUP ORDER. -/
def orderKind (f : Frame) : Option Nat := (requestParameter f).map fun w => bits w 8 8

/-- R190: the AUTO setting of a STAND ORDER. -/
def autoSetting (f : Frame) : Option Bool := (requestParameter f).map fun w => bitOf w 16

/-- R170: a count of 0 is read as 16. -/
def runCount (w : Word) : Nat := if bits w 24 5 = 0 then 16 else bits w 24 5

end Sys2Proof.Machine
end

