-- ==== Sys2Proof/Syntax.lean ====
section
/-!
DEFINITION. The commands: one constructor for each row of spec/opcode_table.json, in the table's order.
A command that a frame brings carries the frame as it arrived at IN.
-/

namespace Sys2Proof

/-- A command of the SQ8, one constructor for each row of the table. -/
inductive Instr where
  /-- CYCLE_FRAME, R147. -/
  | cycleFrame (f : Frame) (plan : Plan)
  /-- FOREIGN_FRAME, R146. -/
  | foreignFrame (f : Frame)
  /-- RING_LOSS_TIMER_EXPIRY, R165. -/
  | ringLossTimerExpiry (order : List LossOwner)
  /-- RESET_ASSERT, R192. -/
  | resetAssert
  /-- RESET_RELEASE, R192. -/
  | resetRelease (straps : BitVec 4)
  /-- READ_TABLE, R171. -/
  | readTable (f : Frame)
  /-- LOAD_TABLE_PART, R173. -/
  | loadTablePart (f : Frame)
  /-- LOAD_TABLE_STAND, R42. -/
  | loadTableStand (f : Frame)
  /-- LOAD_TABLE_PATH, R140. -/
  | loadTablePath (f : Frame)
  /-- LOAD_TABLE_GROUP, R143. -/
  | loadTableGroup (f : Frame)
  /-- LOAD_TABLE_GAUGE, R122. -/
  | loadTableGauge (f : Frame)
  /-- ENABLE, R10. -/
  | enable (f : Frame)
  /-- DISABLE, R11. -/
  | disable (f : Frame)
  /-- PARK, R12. -/
  | park (f : Frame)
  /-- RESUME, R13. -/
  | resume (f : Frame)
  /-- MOUNT, R14. -/
  | mount (f : Frame)
  /-- UNMOUNT, R15. -/
  | unmount (f : Frame)
  /-- RANGE, R16. -/
  | range (f : Frame)
  /-- AUTO_ON, R17. -/
  | autoOn (f : Frame)
  /-- AUTO_OFF, R17. -/
  | autoOff (f : Frame)
  /-- SPLICE_NOW, R18. -/
  | spliceNow (f : Frame)
  /-- ABORT, R19. -/
  | abort (f : Frame)
  /-- CLEAR_FAULT, R20. -/
  | clearFault (f : Frame)
  /-- GROUP_ORDER_HOLD, R104. -/
  | groupOrderHold (f : Frame)
  /-- GROUP_ORDER_RELEASE, R104. -/
  | groupOrderRelease (f : Frame)
  /-- READ_STAND, R174. -/
  | readStand (f : Frame)
  /-- READ_TRACKER, R175. -/
  | readTracker (f : Frame)
  /-- TAKE_EVENTS, R181. -/
  | takeEvents (f : Frame)
  /-- CLEAR_ATTENTION, R178. -/
  | clearAttention (f : Frame)
  /-- RESTART_PART, R182. -/
  | restartPart (f : Frame)
  /-- UNKNOWN_REQUEST, R169. -/
  | unknownRequest (f : Frame)
  /-- AUTOMATIC_TRIGGER, R21. -/
  | automaticTrigger (n : StandNo)
  /-- LOCK_GRANT, R97. -/
  | lockGrant (g : GroupNo)
  /-- FORCED_START, R24. -/
  | forcedStart (n : StandNo)
  /-- PASTING_ADVANCE_ENTRY, R75. -/
  | pastingAdvanceEntry (n : StandNo)
  /-- PASTE_INSTANT, R81. -/
  | pasteInstant (n : StandNo)
  /-- PASTE_CONFIRM, R82. -/
  | pasteConfirm (n : StandNo)
  /-- SPLICE_COMPLETION, R87. -/
  | spliceCompletion (n : StandNo)
  /-- MATCH_DEADLINE, R26. -/
  | matchDeadline (n : StandNo)
  /-- ADVANCE_DEADLINE, R77. -/
  | advanceDeadline (n : StandNo)
  /-- CONFIRM_DEADLINE, R83. -/
  | confirmDeadline (n : StandNo)
  /-- KNIFE_TIMEOUT, R88. -/
  | knifeTimeout (n : StandNo)
  /-- GAUGE_MEASURE_START, R117. -/
  | gaugeMeasureStart (g : GaugeNo)
  /-- GAUGE_RESULT, R118. -/
  | gaugeResult (g : GaugeNo)
  /-- GAUGE_MEASURE_TIMEOUT, R119. -/
  | gaugeMeasureTimeout (g : GaugeNo)
  /-- GAUGE_CANCEL_END, R120. -/
  | gaugeCancelEnd (g : GaugeNo)
  /-- GAUGE_CANCEL_TIMEOUT, R120. -/
  | gaugeCancelTimeout (g : GaugeNo)
  /-- SAMPLES_STALE, R162. -/
  | samplesStale (f : InputField)
  /-- HOLD_CHECKPOINT, R131. -/
  | holdCheckpoint (n : StandNo)
  /-- REJECT_POINT, R133. -/
  | rejectPoint (n : StandNo)
  /-- CLEARANCE_POINT, R136. -/
  | clearancePoint (n : StandNo)
  /-- STAND_TABLE_PENDING_APPLY, R45. -/
  | standTablePendingApply (n : StandNo)
  /-- GAUGE_TABLE_PENDING_APPLY, R122. -/
  | gaugeTablePendingApply (g : GaugeNo)
  /-- PATH_TABLE_PENDING_APPLY, R141. -/
  | pathTablePendingApply (n : StandNo)
  /-- GROUP_TABLE_PENDING_APPLY, R143. -/
  | groupTablePendingApply (g : GroupNo)
  deriving DecidableEq, Repr, Inhabited

end Sys2Proof
end

