-- ==== Sys2Proof/Decode.lean ====
section
/-!
DEFINITION. From what arrives to the command it is. The table gives its rows no bits, so no word spells a command;
the commands that frames bring are read from the frames, by the layouts and codes of chapter 10.
-/

namespace Sys2Proof

open Machine

/-- spec/opcode_table.json gives none of its rows any bits: no word spells a command. -/
def decodeTableWord (_nbits _w : Nat) : Option Instr := none

/-- R172, R191: the row of a LOAD TABLE request, by its table kind. -/
def loadRow (f : Frame) : Instr :=
  match tableKind f with
  | some 0 => .loadTablePart f
  | some 1 => .loadTableStand f
  | some 2 => .loadTablePath f
  | some 3 => .loadTableGroup f
  | some 4 => .loadTableGauge f
  | _ => .unknownRequest f

/-- R191, R190: the row of an AUTO order, by bit 16 of its slot 1. -/
def autoRow (f : Frame) : Instr :=
  match autoSetting f with
  | some true => .autoOn f
  | some false => .autoOff f
  | none => .unknownRequest f

/-- R9, R191: the row of a STAND ORDER request, by its order kind. -/
def orderRow (f : Frame) : Instr :=
  match orderKind f with
  | some 1 => .enable f
  | some 2 => .disable f
  | some 3 => .park f
  | some 4 => .resume f
  | some 5 => .mount f
  | some 6 => .unmount f
  | some 7 => .range f
  | some 8 => autoRow f
  | some 9 => .spliceNow f
  | some 10 => .abort f
  | some 11 => .clearFault f
  | _ => .unknownRequest f

/-- R104, R190: the row of a GROUP ORDER request, by its order kind. -/
def groupOrderRow (f : Frame) : Instr :=
  match orderKind f with
  | some 1 => .groupOrderHold f
  | some 2 => .groupOrderRelease f
  | _ => .unknownRequest f

/-- R169, R191: the row of a service frame addressed to the part, by its request kind. -/
def serviceRow (f : Frame) : Instr :=
  match requestKind f with
  | some 1 => .readTable f
  | some 2 => loadRow f
  | some 3 => orderRow f
  | some 4 => groupOrderRow f
  | some 5 => .readStand f
  | some 6 => .readTracker f
  | some 7 => .takeEvents f
  | some 8 => .clearAttention f
  | some 9 => .restartPart f
  | _ => .unknownRequest f

/-- R186, R192: the command that a frame at IN is to a part with this node address (0: it has none).
The plan says in which order the work of a cycle frame is taken. -/
def arrival (node : BitVec 4) (plan : Plan) (f : Frame) : Instr :=
  if frameKind f = 1 then .cycleFrame f plan
  else if isService f ∧ node ≠ 0 ∧ destination f = node then serviceRow f
  else .foreignFrame f

end Sys2Proof
end

