-- ==== Sys2Proof/Machine/Defaults.lean ====
section
/-!
DEFINITION. The power-on defaults and the ranges of the table entries (R40, R122, R139, R142, R173).
A value is the 32-bit word that a load carries; a range is read on the word as two's complement (R184).
-/

namespace Sys2Proof.Machine

/-- R173: command lead, ring-loss count, status base, attention mask (all six kinds on). -/
def partDefaults : Vector Word 4 := #v[2000, 8, 0, 63]

/-- R40: the twenty-eight entries of a stand table; entry 1 is NONE, code 4. -/
def standDefaults : Vector Word 28 :=
  #v[0, 4, 0, 0, 3, 1300, 1100, 80, 20, 1000, 2000, 5000, 0, 30, 4, 8, 6, 0, 0, 500, 40, 2, 8000, 300, 50000, 12000,
    10000, 1500]

/-- R139: one checkpoint in use; each checkpoint at 1,000,000, FOLDER, slot 0, window 0. -/
def pathDefaults : Vector Word 17 :=
  #v[1, 1000000, 1, 0, 0, 1000000, 1, 0, 0, 1000000, 1, 0, 0, 1000000, 1, 0, 0]

/-- R142: folder bases, cutoff, margins, clearance. -/
def groupDefaults : Vector Word 6 := #v[0, 0, 5780, 3000, 3000, 50]

/-- R122: bases and measure timeout. -/
def gaugeDefaults : Vector Word 3 := #v[0, 0, 3000]

/-- A closed range of values. -/
abbrev Bounds := Int × Int

/-- R173, R191: a mask with a bit above bit 5 is out of range. -/
def partBounds : Nat → Bounds
  | 0 => (500, 20000)
  | 1 => (2, 64)
  | 2 => (0, 492)
  | _ => (0, 63)

/-- R40, R191: the ranges of stand table entries 0 to 27. -/
def standBounds : Nat → Bounds
  | 0 => (0, 3)
  | 1 => (0, 4)
  | 2 => (0, 504)
  | 3 => (0, 506)
  | 4 => (0, 7)
  | 5 => (800, 3000)
  | 6 => (500, 2000)
  | 7 => (40, 200)
  | 8 => (0, 500)
  | 9 => (200, 5000)
  | 10 => (0, 10000)
  | 11 => (500, 30000)
  | 12 => (-200, 200)
  | 13 => (5, 200)
  | 14 => (2, 16)
  | 15 => (2, 64)
  | 16 => (2, 20)
  | 17 => (-2048, 2047)
  | 18 => (0, 4095)
  | 19 => (50, 2000)
  | 20 => (5, 200)
  | 21 => (1, 4)
  | 22 => (500, 20000)
  | 23 => (50, 2000)
  | 24 => (1000, 60000)
  | 25 => (1000, 40000)
  | 26 => (2000, 30000)
  | _ => (300, 10000)

/-- R139, R191: the ranges of path table entries 0 to 16, four a checkpoint after entry 0. -/
def pathBounds (i : Nat) : Bounds :=
  if i = 0 then (1, 4)
  else if (i - 1) % 4 = 0 then (1, 2000000000)
  else if (i - 1) % 4 = 1 then (0, 1)
  else if (i - 1) % 4 = 2 then (0, 511)
  else (0, 100000)

/-- R142: the ranges of group table entries 0 to 5. -/
def groupBounds : Nat → Bounds
  | 0 => (0, 510)
  | 1 => (0, 510)
  | 2 => (3000, 7000)
  | 3 => (0, 20000)
  | 4 => (0, 20000)
  | _ => (0, 2000)

/-- R122: the ranges of gauge table entries 0 to 2. -/
def gaugeBounds : Nat → Bounds
  | 0 => (0, 509)
  | 1 => (0, 510)
  | _ => (200, 20000)

/-- A word lies in a range, read as two's complement (R184). -/
def withinBounds (b : Bounds) (w : Word) : Bool := decide (b.1 ≤ w.toInt ∧ w.toInt ≤ b.2)

end Sys2Proof.Machine
end

