-- ==== Sys2Proof/Machine/State.lean ====
section
/-!
DEFINITION. The state of the SQ8 as plain data: every register, record, list, queue, flag and table that the manual gives
its eight blocks, the queue of waiting commands, and the state after power-on.
-/

namespace Sys2Proof.Machine

/-- What would stop the machine. The manual names nothing that stops the SQ8: FAULT is a state of a stand (R29), and a
request that cannot be taken is answered with a reply code (R169). No constructor, so no command ends so (safe). -/
inductive Fault where
  deriving DecidableEq, Repr

/-- Why a command has no meaning. -/
inductive Refusal where
  /-- Raised by exec's arm of a row that has no meaning yet (safe). No arm of this model raises it. -/
  | notModelled (mnemonic : String)
  deriving DecidableEq, Repr

/-- R2: the phases of PASTING. -/
inductive Phase where
  | advance
  | brush
  | cut
  deriving DecidableEq, Repr

/-- R2: the ten stand states. PASTING holds its phase, so in every other state the phase is absent. -/
inductive StandState where
  | offline
  | parked
  | running
  | loaded
  | ranging
  | ready
  | waiting
  | accelerating
  | pasting (p : Phase)
  | fault
  deriving DecidableEq, Repr

/-- R29: the nine fault codes. -/
inductive FaultCode where
  | webLost
  | driveFail
  | matchFail
  | markFail
  | setupFail
  | pasteMiss
  | pasteUnknown
  | knifeFail
  | ringLost
  deriving DecidableEq, Repr

/-- R6: rotation modes. -/
inductive RotationMode where
  | brake
  | accel
  | hold
  deriving DecidableEq, Repr

/-- R6: arm orders. -/
inductive ArmOrder where
  | retract
  | advance
  deriving DecidableEq, Repr

/-- R157, R158: the arm position as held. -/
inductive ArmPosition where
  | retracted
  | moving
  | pastePosition
  deriving DecidableEq, Repr

/-- R32: where a new reel's diameter came from. -/
inductive DiameterSource where
  | manual
  | gauge
  deriving DecidableEq, Repr

/-- R34: how the expiring reel came to feed the web. -/
inductive Origin where
  | threaded
  | spliced
  deriving DecidableEq, Repr

/-- R34, R58: the remaining time in ms, or UNBOUNDED. -/
inductive RemainingTime where
  | ms (t : Nat)
  | unbounded
  deriving DecidableEq, Repr

/-- R32: an ident, its characters in order. -/
abbrev Ident := List (BitVec 8)

/-- R32: a diameter with its source; the source is present exactly when the diameter is. -/
structure MeasuredDiameter where
  value : Nat
  source : DiameterSource
  deriving DecidableEq, Repr

/-- R32: the new-reel record. -/
structure NewReel where
  ident : Option Ident
  caliper : Nat
  diameter : Option MeasuredDiameter
  mark : Option (BitVec 12)
  mountTime : BitVec 32
  deriving DecidableEq, Repr

/-- R34: the diameter estimate with the remaining length and time that are present exactly when it is. -/
structure Estimate where
  diameter : Nat
  length : Nat
  time : RemainingTime
  deriving DecidableEq, Repr

/-- R34: the expiring-reel record. -/
structure ExpiringReel where
  ident : Option Ident
  caliper : Nat
  origin : Origin
  estimate : Option Estimate
  lastRevolution : BitVec 8
  lastLatched : BitVec 32
  lowReported : Bool
  deriving DecidableEq, Repr

/-- R68: the paste schedule. -/
structure PasteSchedule where
  matchCount : Nat
  markCount : Nat
  lastMark : Option (BitVec 12)
  markReference : BitVec 8
  matchDeadline : BitVec 32
  advanceDeadline : Option (BitVec 32)
  contactTime : Option (BitVec 32)
  brushTime : Option (BitVec 32)
  confirmDeadline : Option (BitVec 32)
  confirmReference : Option (BitVec 8)
  knifeTime : Option (BitVec 32)
  knifeReference : Option (BitVec 8)
  deriving DecidableEq, Repr

/-- R46: a table load as its request carried it: the first entry and every value of the run. -/
structure Load where
  first : Nat
  values : List Word
  deriving DecidableEq, Repr

/-- R157, R158: a stand sample as held, with its sample time. -/
structure StandSample where
  time : BitVec 32
  webSpeed : Nat
  length : BitVec 32
  revolutions : BitVec 8
  latched : BitVec 32
  angle : BitVec 12
  angleOffset : Nat
  rate : Nat
  markCount : BitVec 8
  markAngle : BitVec 12
  confirmCount : BitVec 8
  knifeCount : BitVec 8
  ready : Bool
  web : Bool
  arm : ArmPosition
  deriving DecidableEq, Repr

/-- R159: a gauge sample. -/
structure GaugeSample where
  busy : Bool
  completed : BitVec 8
  valid : Bool
  distance : Nat
  deriving DecidableEq, Repr

/-- R160: what the Sample Monitor holds for one input field. -/
structure Monitor (α : Type) where
  history : Option (BitVec 4)
  held : Option α
  staleCount : Nat
  stale : Bool
  deriving DecidableEq, Repr

/-- R160: the items of a field after power-on. -/
def Monitor.initial {α : Type} : Monitor α := { history := none, held := none, staleCount := 0, stale := false }

/-- A stand sequencer (R2, R3, R6, R32, R34, R68, R92) with its stand table (R40) and the monitor of its field. -/
structure Stand where
  state : StandState
  faultCode : Option FaultCode
  auto : Bool
  urgent : Bool
  forced : Bool
  newReel : Option NewReel
  expiring : Option ExpiringReel
  schedule : Option PasteSchedule
  rotation : RotationMode
  arm : ArmOrder
  rotationRef : Nat
  brushAt : Option (BitVec 32)
  knifeAt : Option (BitVec 32)
  freshness : BitVec 4
  table : Vector Word 28
  loaded : Bool
  pendingLoad : Option Load
  monitor : Monitor StandSample
  deriving DecidableEq, Repr

/-- R95: the holder of a group's lock. -/
inductive Holder where
  | none
  | stand (n : StandNo)
  | entry (n : StandNo)
  deriving DecidableEq, Repr

/-- R126: a tracker entry. -/
structure Entry where
  stand : StandNo
  ident : Option Ident
  contactTime : BitVec 32
  contactLength : BitVec 32
  forced : Bool
  holdsLock : Bool
  next : Nat
  rejectIssued : Bool
  copies : Option Nat
  deriving DecidableEq, Repr

/-- A folder group: its lock (R94), its tracker list (R125), its folder command (R134), its table (R142) and the monitor
of its folder field. `orderPrepared` is the model's own: an order has been prepared at this frame (R134). -/
structure Group where
  holder : Holder
  held : Bool
  waiting : Vector Bool 8
  tracker : List Entry
  freshness : BitVec 4
  orderNumber : BitVec 8
  copyCount : Nat
  orderPrepared : Bool
  table : Vector Word 6
  loaded : Bool
  pendingLoad : Option Load
  monitor : Monitor Nat
  deriving DecidableEq, Repr

/-- R112: the gauge state. The current stand is present in MEASURING alone, the deadline in MEASURING and CANCELLING. -/
inductive GaugeState where
  | idle
  | measuring (n : StandNo) (deadline : BitVec 32)
  | cancelling (deadline : BitVec 32)
  deriving DecidableEq, Repr

/-- A gauge (R112) with its table (R122) and the monitor of its field. -/
structure Gauge where
  state : GaugeState
  sequence : BitVec 8
  queue : List StandNo
  freshness : BitVec 4
  table : Vector Word 3
  loaded : Bool
  pendingLoad : Option Load
  monitor : Monitor GaugeSample
  deriving DecidableEq, Repr

/-- R139: a path table instance. -/
structure PathTable where
  table : Vector Word 17
  loaded : Bool
  pendingLoad : Option Load
  deriving DecidableEq, Repr

/-- R149: the ring condition. -/
inductive Ring where
  | up
  | lost
  deriving DecidableEq, Repr

/-- R149: what the RPU keeps of the last accepted cycle frame. -/
structure Header where
  time : BitVec 32
  cycle : BitVec 16
  period : Nat
  deriving DecidableEq, Repr

/-- R149: the items of the Ring Port Unit. The slot field map is computed from the tables; the base at which the status
field is written in force is kept, since a load moves it from the next accepted frame on (R173). -/
structure Port where
  last : Option Header
  effectiveLead : Nat
  ring : Ring
  timer : Option Nat
  timeBack : Bool
  shortFrame : Bool
  statusBase : Nat
  deriving DecidableEq, Repr

/-- R191: the twenty-six event kinds. -/
inductive EventKind where
  | spliceDone
  | spliceForced
  | pasteMiss
  | pasteUnknown
  | knifeFail
  | matchFail
  | markFail
  | setupFail
  | driveFail
  | webLost
  | speedAbort
  | samplesStale
  | samplesFresh
  | rangeDone
  | rangeBad
  | gaugeTimeout
  | reelLow
  | rejectIssued
  | rejectMissed
  | lockGranted
  | lockReleased
  | ringLost
  | ringBack
  | timeBack
  | fieldRange
  | tableApplied
  deriving DecidableEq, Repr

/-- R180: the group or the gauge that an event names. -/
inductive EventUnit where
  | group (g : GroupNo)
  | gauge (g : GaugeNo)
  deriving DecidableEq, Repr

/-- R180: an event record. -/
structure Event where
  kind : EventKind
  stand : Option StandNo
  unit : Option EventUnit
  cycle : BitVec 16
  time : BitVec 32
  detail : Option Nat
  deriving DecidableEq, Repr

/-- R177: the four attention flags of a stand. -/
structure StandFlags where
  fault : Bool
  spliceDone : Bool
  rangeResult : Bool
  stale : Bool
  deriving DecidableEq, Repr

/-- R183: the Service Responder. -/
structure Responder where
  table : Vector Word 4
  loaded : Bool
  flags : Vector StandFlags 8
  eventsFlag : Bool
  ringFlag : Bool
  events : List Event
  overflow : Bool
  deriving DecidableEq, Repr

/-- R164: the work of the last accepted frame (the model's own record, log entry 2): the contents of each field of the map as
the frame brought them (none: the field does not lie within the frame), until the field is judged; the fields accepted at
this frame; the fields that a load has moved before their judgement at this frame (R153); whether this frame brought the
ring back; the stale limits applied when it was accepted (R43, R162); the groups whose grant goes before a pending
load (R143); and the pieces of work not yet taken. -/
structure FrameWork where
  handed : List (InputField × Option (List Word))
  fresh : List InputField
  moved : List InputField
  recovery : Bool
  limits : Vector Nat 8
  grantFirst : List GroupNo
  due : List Work
  deriving DecidableEq, Repr

/-- The whole machine. `pending` is the queue of waiting commands, first in first out, and `out` the last frame that left
at OUT: these two and `frame` are the model's own. `windows` are the hold windows prepared and not yet carried (R132). -/
structure State where
  pending : List Instr
  out : Option Frame
  resetLow : Bool
  nodeAddress : BitVec 4
  port : Port
  stands : Vector Stand 8
  groups : Vector Group 4
  gauges : Vector Gauge 4
  paths : Vector PathTable 8
  windows : List (Nat × Nat)
  responder : Responder
  frame : FrameWork
  deriving DecidableEq, Repr

/-- R7, R38, R40, R92: a stand after power-on. -/
def Stand.powerOn : Stand :=
  { state := .offline, faultCode := none, auto := false, urgent := false, forced := false, newReel := none,
    expiring := none, schedule := none, rotation := .brake, arm := .retract, rotationRef := 0, brushAt := none,
    knifeAt := none, freshness := 0, table := standDefaults, loaded := false, pendingLoad := none,
    monitor := Monitor.initial }

/-- R94, R125, R134, R142: a group after power-on. -/
def Group.powerOn : Group :=
  { holder := .none, held := false, waiting := Vector.replicate 8 false, tracker := [], freshness := 0,
    orderNumber := 0, copyCount := 0, orderPrepared := false, table := groupDefaults, loaded := false,
    pendingLoad := none, monitor := Monitor.initial }

/-- R112, R122: a gauge after power-on. -/
def Gauge.powerOn : Gauge :=
  { state := .idle, sequence := 0, queue := [], freshness := 0, table := gaugeDefaults, loaded := false,
    pendingLoad := none, monitor := Monitor.initial }

/-- R139: a path table after power-on. -/
def PathTable.powerOn : PathTable := { table := pathDefaults, loaded := false, pendingLoad := none }

/-- R149: the Ring Port Unit after power-on; the effective command lead is part table entry 0. -/
def Port.powerOn : Port :=
  { last := none, effectiveLead := 2000, ring := .lost, timer := none, timeBack := false, shortFrame := false,
    statusBase := 0 }

/-- R183: the Service Responder after power-on. -/
def Responder.powerOn : Responder :=
  { table := partDefaults, loaded := false, flags := Vector.replicate 8 ⟨false, false, false, false⟩,
    eventsFlag := false, ringFlag := false, events := [], overflow := false }

/-- No frame's work, before the first accepted frame; the limits are the default of stand table entry 4 (R40). -/
def FrameWork.powerOn : FrameWork :=
  { handed := [], fresh := [], moved := [], recovery := false, limits := Vector.replicate 8 3, grantFirst := [], due := [] }

/-- R192: the machine after the release of RESET with this strap value. -/
def State.powerOn (straps : BitVec 4) : State :=
  { pending := [], out := none, resetLow := false, nodeAddress := straps, port := Port.powerOn,
    stands := Vector.replicate 8 Stand.powerOn, groups := Vector.replicate 4 Group.powerOn,
    gauges := Vector.replicate 4 Gauge.powerOn, paths := Vector.replicate 8 PathTable.powerOn, windows := [],
    responder := Responder.powerOn, frame := FrameWork.powerOn }

/-- The machine right after reset, with no command waiting. The straps are DESIGN CHOICE (log entry 5). -/
def State.reset : State := State.powerOn Config.strapsAtReset

end Sys2Proof.Machine
end

