-- ==== Sys2Proof/Machine/Reel.lean ====
section
/-!
DEFINITION. The conventions of R1 for ring times and web lengths, and the stages A to I of the Reel Arithmetic
(R49 to R64, R70, R78 to R80, R85, R128, R133). The block holds no state (R67).
-/

namespace Sys2Proof.Machine

/-! ### Conventions (R1) -/

/-- R1: the difference A minus B modulo 2^32, read as a signed number. -/
def since (a b : BitVec 32) : Int := (a - b).toInt

/-- R1: A has reached B. -/
def reached (a b : BitVec 32) : Bool := decide (0 ≤ since a b)

/-- R1: A is later than B. -/
def later (a b : BitVec 32) : Bool := decide (0 < since a b)

/-- R1: a duration in ms added to a ring time. -/
def addMs (t : BitVec 32) (ms : Nat) : BitVec 32 := t + BitVec.ofNat 32 (1000 * ms)

/-- R1: rounded up. -/
def divUp (a b : Nat) : Nat := (a + b - 1) / b

/-- R1: rounded to nearest, a half upward. -/
def divNearest (a b : Nat) : Nat := (2 * a + b) / (2 * b)

/-- R1: the circular distance between two angles. -/
def circularDistance (a b : BitVec 12) : Nat := min (a - b).toNat (4096 - (a - b).toNat)

/-! ### Stage A: the diameter estimate (R50 to R53) -/

/-- R50: the revolution step. -/
def revolutionStep (count last : BitVec 8) : Nat := (count - last).toNat

/-- R51: the mean length of one revolution over `k` revolutions. -/
def revolutionLength (latched last : BitVec 32) (k : Nat) : Nat := (latched - last).toNat / k

/-- R51: the candidate diameter, with π as 355/113, clamped to 15000. -/
def candidateDiameter (revolutionLength : Nat) : Nat := min 15000 (divNearest (revolutionLength * 113) 355)

/-- R52: the estimate after a candidate; `core` is the core diameter. -/
def acceptCandidate (estimate : Option Nat) (core candidate : Nat) : Option Nat :=
  match estimate with
  | none => if core < candidate then some candidate else none
  | some e => if candidate ≤ e + 50 then some candidate else some e

/-! ### Stages B and C: remaining length and time (R56, R58) -/

/-- R56: the remaining length, in 0.1 mm, of an estimate `d` above the splice diameter `ds`, for caliper `c`. -/
def remainingLength (d ds c : Nat) : Nat := if d ≤ ds then 0 else 8875 * (d ^ 2 - ds ^ 2) / (113 * c)

/-- R58: the remaining time at web speed `v`. -/
def remainingTime (length v : Nat) : RemainingTime :=
  if v = 0 then .unbounded else .ms (min 4294967295 (length * 100 / v))

/-- R50 to R53: stage A on the expiring-reel record, its remaining length and time left as they stand. The answer is the
estimate and the baseline. -/
def stageA (r : ExpiringReel) (core : Nat) (s : StandSample) : Option Nat × BitVec 8 × BitVec 32 :=
  let k := revolutionStep s.revolutions r.lastRevolution
  if k = 0 then (r.estimate.map (·.diameter), r.lastRevolution, r.lastLatched)
  else
    (acceptCandidate (r.estimate.map (·.diameter)) core
      (candidateDiameter (revolutionLength s.latched r.lastLatched k)), s.revolutions, s.latched)

/-- R49: one tracking step of the expiring-reel record: stages A, B and C. -/
def trackReel (r : ExpiringReel) (core ds : Nat) (s : StandSample) : ExpiringReel :=
  let a := stageA r core s
  { r with
    estimate := a.1.map fun d =>
      { diameter := d, length := remainingLength d ds r.caliper,
        time := remainingTime (remainingLength d ds r.caliper) s.webSpeed }
    lastRevolution := a.2.1
    lastLatched := a.2.2 }

/-! ### Stage D: the lead (R60 to R63) -/

/-- R60: T_acc, in ms. -/
def accelerationTime (v a : Nat) : Nat := divUp (v * 1000) a

/-- R61: T_rev, in ms. -/
def leadRevolutionTime (diameter v : Nat) : Nat := divUp (35500 * diameter) (113 * v)

/-- R63: the lead, in ms; `commandLead` is the effective command lead in µs (R62). -/
def leadTime (v a settle setup diameter commandLead : Nat) : Nat :=
  accelerationTime v a + settle + setup + leadRevolutionTime diameter v + divUp commandLead 1000

/-! ### Stage E: the rotation reference (R70) and the match band (R72) -/

/-- R70: n_ref, clamped to n_max; `trim` is the speed trim in bp. -/
def rotationReference (v diameter : Nat) (trim : Int) (limit : Nat) : Nat :=
  min limit (divNearest (113 * v * (10000 + trim).toNat) (355 * diameter))

/-- R72: a sample is matched. -/
def matched (measured reference tolerance : Nat) : Bool :=
  decide (((measured : Int) - reference).natAbs ≤ reference * tolerance / 10000)

/-! ### Stage F: the paste instant (R78 to R80) -/

/-- R78: the angle to travel until the tape reaches the contact line. -/
def angleToTravel (mark : BitVec 12) (pasteOffset : Int) (brushAngle : Nat) (angle : BitVec 12) : Nat :=
  (mark + BitVec.ofInt 12 pasteOffset - BitVec.ofNat 12 brushAngle - angle).toNat

/-- R79: t_arr, in µs. -/
def arrivalTime (travel rate : Nat) : Nat := travel * 10 ^ 9 / (4096 * rate)

/-- R79: t_rev, in µs. -/
def revolutionTime (rate : Nat) : Nat := 10 ^ 9 / rate

/-- R80: the smallest whole number of revolutions that brings the brush time to the floor. -/
def rollover (brush floor : BitVec 32) (revolution : Nat) : Nat :=
  if reached brush floor then 0 else divUp (since brush floor).natAbs revolution

/-- R80: the execute floor. -/
def executeFloor (now : BitVec 32) (period effectiveLead : Nat) : BitVec 32 :=
  now + BitVec.ofNat 32 (2 * period + effectiveLead)

/-- R78 to R80: the contact time and the brush time that stage F gives for a sample. -/
def pasteInstant (mark : BitVec 12) (pasteOffset : Int) (brushAngle latency : Nat) (s : StandSample)
    (floor : BitVec 32) : BitVec 32 × BitVec 32 :=
  let contact := s.time + BitVec.ofNat 32 s.angleOffset
    + BitVec.ofNat 32 (arrivalTime (angleToTravel mark pasteOffset brushAngle s.angle) s.rate)
  let brush := contact - BitVec.ofNat 32 (1000 * latency)
  let moved := BitVec.ofNat 32 (rollover brush floor (revolutionTime s.rate) * revolutionTime s.rate)
  (contact + moved, brush + moved)

/-! ### Stages G, H and I -/

/-- R85: the knife time, the later of its two terms; a speed of 0 is taken as 1. -/
def knifeInstant (contact : BitVec 32) (knifeLength v : Nat) (floor : BitVec 32) : BitVec 32 :=
  let first := contact + BitVec.ofNat 32 (knifeLength * 100000 / max 1 v)
  if later floor first then floor else first

/-- R128: the contact length; the quotient is rounded toward zero on either side. -/
def contactLength (length : BitVec 32) (v : Nat) (contact sampleTime : BitVec 32) : BitVec 32 :=
  length + BitVec.ofInt 32 ((v * since contact sampleTime).tdiv 100000)

/-- R133: N, the copies that the reject window spans. -/
def rejectCopies (preMargin extent postMargin cutoff : Nat) : Nat := divUp (preMargin + extent + postMargin) cutoff

/-- R133: the copies ordered, the larger of N and the remaining copies. -/
def copiesOrdered (n remaining : Nat) : Nat := max n remaining

end Sys2Proof.Machine
end

