-- ==== Sys2Proof/Machine/Operands.lean ====
section
/-!
DEFINITION. The operand forms of chapter 10: the named table entries, the sample fields that the SQ8 reads (R187), the
command fields it writes (R188), the records of its replies (R190), and the codes of R191.
-/

namespace Sys2Proof.Machine

/-! ### Table entries by name -/

/-- The entries of a stand table instance (R40). -/
abbrev StandTable := Vector Word 28

/-- The entries of a path table instance (R139). -/
abbrev PathEntries := Vector Word 17

/-- The entries of a group table instance (R142). -/
abbrev GroupTable := Vector Word 6

/-- The entries of a gauge table instance (R122). -/
abbrev GaugeTable := Vector Word 3

/-- The entries of the part table (R173). -/
abbrev PartTable := Vector Word 4

/-- R40, entry 0. -/
def groupEntry (t : StandTable) : GroupNo := Fin.ofNat 4 t[0].toNat

/-- R40, entry 1: a gauge, or NONE (code 4, R191). -/
def gaugeEntry (t : StandTable) : Option GaugeNo := if t[1].toNat < 4 then some (Fin.ofNat 4 t[1].toNat) else none

/-- R40, entry 2. -/
def sampleBase (t : StandTable) : Nat := t[2].toNat

/-- R40, entry 3. -/
def commandBase (t : StandTable) : Nat := t[3].toNat

/-- R40, entry 4. -/
def staleLimit (t : StandTable) : Nat := t[4].toNat

/-- R40, entry 5: the splice diameter Ds. -/
def spliceDiameter (t : StandTable) : Nat := t[5].toNat

/-- R40, entry 6. -/
def coreDiameter (t : StandTable) : Nat := t[6].toNat

/-- R40, entry 7. -/
def defaultCaliper (t : StandTable) : Nat := t[7].toNat

/-- R40, entry 8, multiplied by 10000 (R1): the forced margin in 0.1 mm. -/
def forcedMargin (t : StandTable) : Nat := t[8].toNat * 10000

/-- R40, entry 9. -/
def acceleration (t : StandTable) : Nat := t[9].toNat

/-- R40, entry 10. -/
def settleTime (t : StandTable) : Nat := t[10].toNat

/-- R40, entry 11. -/
def matchAllowance (t : StandTable) : Nat := t[11].toNat

/-- R40, entry 12, signed. -/
def speedTrim (t : StandTable) : Int := t[12].toInt

/-- R40, entry 13. -/
def speedTolerance (t : StandTable) : Nat := t[13].toNat

/-- R40, entry 14. -/
def matchCountEntry (t : StandTable) : Nat := t[14].toNat

/-- R40, entry 15. -/
def markTolerance (t : StandTable) : Nat := t[15].toNat

/-- R40, entry 16. -/
def markLimit (t : StandTable) : Nat := t[16].toNat

/-- R40, entry 17, signed. -/
def pasteOffset (t : StandTable) : Int := t[17].toInt

/-- R40, entry 18. -/
def brushAngle (t : StandTable) : Nat := t[18].toNat

/-- R40, entry 19. -/
def setupTime (t : StandTable) : Nat := t[19].toNat

/-- R40, entry 20. -/
def brushLatency (t : StandTable) : Nat := t[20].toNat

/-- R40, entry 21. -/
def confirmWindow (t : StandTable) : Nat := t[21].toNat

/-- R40, entry 22. -/
def knifeLength (t : StandTable) : Nat := t[22].toNat

/-- R40, entry 23. -/
def knifeTimeoutEntry (t : StandTable) : Nat := t[23].toNat

/-- R40, entry 24: n_max. -/
def rotationLimit (t : StandTable) : Nat := t[24].toNat

/-- R40, entry 25. -/
def spliceExtent (t : StandTable) : Nat := t[25].toNat

/-- R40, entry 26. -/
def gaugeReference (t : StandTable) : Nat := t[26].toNat

/-- R40, entry 27. -/
def minimumSpeed (t : StandTable) : Nat := t[27].toNat

/-- R139, entry 0: how many checkpoints are in use. -/
def checkpointCount (t : PathEntries) : Nat := t[0].toNat

/-- R139: item `j` of checkpoint `c`, entry 1 + 4c + j. -/
def checkpointItem (t : PathEntries) (c j : Nat) : Word := t[1 + 4 * c + j]?.getD 0

/-- R139, entry 1 + 4c. -/
def pathLength (t : PathEntries) (c : Nat) : Nat := (checkpointItem t c 0).toNat

/-- R139, entry 2 + 4c: kind HOLD is code 0, FOLDER code 1 (R191). -/
def isHold (t : PathEntries) (c : Nat) : Bool := checkpointItem t c 1 == 0

/-- R139, entry 3 + 4c. -/
def holdSlot (t : PathEntries) (c : Nat) : Nat := (checkpointItem t c 2).toNat

/-- R139, entry 4 + 4c. -/
def holdWindow (t : PathEntries) (c : Nat) : Nat := (checkpointItem t c 3).toNat

/-- R139, R140: the FOLDER checkpoint is the last in use; its path length. -/
def folderLength (t : PathEntries) : Nat := pathLength t (checkpointCount t - 1)

/-- R139: the HOLD checkpoints in use. -/
def holdCheckpoints (t : PathEntries) : List Nat := (List.range (checkpointCount t)).filter (isHold t)

/-- R142, entry 0. -/
def folderSampleBase (t : GroupTable) : Nat := t[0].toNat

/-- R142, entry 1. -/
def folderCommandBase (t : GroupTable) : Nat := t[1].toNat

/-- R142, entry 2. -/
def cutoff (t : GroupTable) : Nat := t[2].toNat

/-- R142, entry 3. -/
def preMargin (t : GroupTable) : Nat := t[3].toNat

/-- R142, entry 4. -/
def postMargin (t : GroupTable) : Nat := t[4].toNat

/-- R142, entry 5, multiplied by 10000 (R1): the clearance in 0.1 mm. -/
def clearance (t : GroupTable) : Nat := t[5].toNat * 10000

/-- R122, entry 0. -/
def gaugeSampleBase (t : GaugeTable) : Nat := t[0].toNat

/-- R122, entry 1. -/
def gaugeCommandBase (t : GaugeTable) : Nat := t[1].toNat

/-- R122, entry 2. -/
def measureTimeout (t : GaugeTable) : Nat := t[2].toNat

/-- R173, entry 0. -/
def commandLead (t : PartTable) : Nat := t[0].toNat

/-- R173, entry 1. -/
def ringLossCount (t : PartTable) : Nat := t[1].toNat

/-- R173, entry 2. -/
def statusBaseEntry (t : PartTable) : Nat := t[2].toNat

/-- R173, R191: one of the six flag kinds of entry 3. -/
def maskBit (t : PartTable) (i : Nat) : Bool := bitOf t[3] i

/-! ### Sample fields (R187) -/

/-- R187: the freshness counter, bits 0 to 3 of slot 0 of every sample field. -/
def freshnessOf (ws : List Word) : BitVec 4 := (slotAt ws 0).extractLsb' 0 4

/-- R187, R158: an arm position code; 3 is held as MOVING. -/
def armOf : Nat → ArmPosition
  | 0 => .retracted
  | 2 => .pastePosition
  | _ => .moving

/-- R187: a stand sample field as held, with the readings of R158; `time` and `period` are those of its frame. -/
def readStandSample (ws : List Word) (time : BitVec 32) (period : Nat) : StandSample :=
  { time := time
    webSpeed := min Config.maxWebSpeed (bits (slotAt ws 1) 0 16)
    length := slotAt ws 2
    revolutions := (slotAt ws 3).extractLsb' 0 8
    latched := slotAt ws 4
    angle := (slotAt ws 5).extractLsb' 0 12
    angleOffset := min period (bits (slotAt ws 5) 16 16)
    rate := bits (slotAt ws 6) 0 16
    markCount := (slotAt ws 6).extractLsb' 16 8
    markAngle := (slotAt ws 7).extractLsb' 0 12
    confirmCount := (slotAt ws 7).extractLsb' 16 8
    knifeCount := (slotAt ws 7).extractLsb' 24 8
    ready := bitOf (slotAt ws 0) 8
    web := bitOf (slotAt ws 0) 9
    arm := armOf (bits (slotAt ws 0) 12 2) }

/-- R187: a gauge sample field. -/
def readGaugeSample (ws : List Word) : GaugeSample :=
  { busy := bitOf (slotAt ws 0) 8
    completed := (slotAt ws 1).extractLsb' 0 8
    valid := bitOf (slotAt ws 0) 9
    distance := bits (slotAt ws 2) 0 16 }

/-- R187: the remaining reject copies of a folder sample field. -/
def readFolderSample (ws : List Word) : Nat := bits (slotAt ws 1) 0 8

/-! ### Codes (R191) -/

/-- R191: stand states. -/
def stateCode : StandState → Nat
  | .offline => 0
  | .parked => 1
  | .running => 2
  | .loaded => 3
  | .ranging => 4
  | .ready => 5
  | .waiting => 6
  | .accelerating => 7
  | .pasting _ => 8
  | .fault => 9

/-- R191: phases, 0 where the phase is absent. -/
def phaseCode : StandState → Nat
  | .pasting .advance => 1
  | .pasting .brush => 2
  | .pasting .cut => 3
  | _ => 0

/-- R191: fault codes. -/
def faultNumber : FaultCode → Nat
  | .webLost => 1
  | .driveFail => 2
  | .matchFail => 3
  | .markFail => 4
  | .setupFail => 5
  | .pasteMiss => 6
  | .pasteUnknown => 7
  | .knifeFail => 8
  | .ringLost => 9

/-- R191: a fault code item, 0 for none. -/
def faultItem : Option FaultCode → Nat
  | some c => faultNumber c
  | none => 0

/-- R191: event kinds. -/
def eventNumber : EventKind → Nat
  | .spliceDone => 1
  | .spliceForced => 2
  | .pasteMiss => 3
  | .pasteUnknown => 4
  | .knifeFail => 5
  | .matchFail => 6
  | .markFail => 7
  | .setupFail => 8
  | .driveFail => 9
  | .webLost => 10
  | .speedAbort => 11
  | .samplesStale => 12
  | .samplesFresh => 13
  | .rangeDone => 14
  | .rangeBad => 15
  | .gaugeTimeout => 16
  | .reelLow => 17
  | .rejectIssued => 18
  | .rejectMissed => 19
  | .lockGranted => 20
  | .lockReleased => 21
  | .ringLost => 22
  | .ringBack => 23
  | .timeBack => 24
  | .fieldRange => 25
  | .tableApplied => 26

/-- R29: a fault code is named after the event that reports it. -/
def faultEvent : FaultCode → EventKind
  | .webLost => .webLost
  | .driveFail => .driveFail
  | .matchFail => .matchFail
  | .markFail => .markFail
  | .setupFail => .setupFail
  | .pasteMiss => .pasteMiss
  | .pasteUnknown => .pasteUnknown
  | .knifeFail => .knifeFail
  | .ringLost => .ringLost

/-- R188: rotation modes. -/
def rotationCode : RotationMode → Nat
  | .brake => 0
  | .accel => 1
  | .hold => 2

/-- R188: arm orders. -/
def armCode : ArmOrder → Nat
  | .retract => 0
  | .advance => 1

/-! ### Command fields (R188) -/

/-- R90: the carriage test of an execute time in the frame with this ring time: it is carried when it lies at least the
effective command lead after the frame's ring time. -/
def carried (execute : Option (BitVec 32)) (frameTime : BitVec 32) (lead : Nat) : Option (BitVec 32) :=
  execute.filter fun t => decide ((lead : Int) ≤ since t frameTime)

/-- R188: the stand command field, for a frame with this ring time. -/
def standCommand (st : Stand) (frameTime : BitVec 32) (lead : Nat) : List Word :=
  let brush := carried st.brushAt frameTime lead
  let knife := carried st.knifeAt frameTime lead
  [place st.freshness.toNat 0 ||| place (rotationCode st.rotation) 8 ||| place (armCode st.arm) 12
     ||| placeBit brush.isSome 16 ||| placeBit knife.isSome 17,
   place st.rotationRef 0, brush.getD 0, knife.getD 0, 0, 0]

/-- R112, R115: the gauge order, NONE in IDLE, MEASURE in MEASURING, CANCEL in CANCELLING (codes 0, 1, 2). -/
def gaugeOrder : GaugeState → Nat
  | .idle => 0
  | .measuring _ _ => 1
  | .cancelling _ => 2

/-- R188: the stand number of a gauge command field, 15 for an absent stand. -/
def gaugeStandNumber : GaugeState → Nat
  | .measuring n _ => n
  | _ => 15

/-- R188: the gauge command field. -/
def gaugeCommand (g : Gauge) : List Word :=
  [place g.freshness.toNat 0 ||| place (gaugeOrder g.state) 8,
   place (gaugeStandNumber g.state) 0 ||| place g.sequence.toNat 16]

/-- R188: the folder command field. -/
def folderCommand (g : Group) : List Word :=
  [place g.freshness.toNat 0 ||| place g.orderNumber.toNat 16, place g.copyCount 0]

/-! ### Records in replies (R184, R190) -/

/-- R184: three slots of characters, four a slot, the first in bits 0 to 7 of the first; 0 beyond the length. -/
def identSlots (id : Option Ident) : List Word :=
  let c := fun i => ((id.getD []).getD i 0).toNat
  let slot := fun k => place (c (4 * k)) 0 ||| place (c (4 * k + 1)) 8 ||| place (c (4 * k + 2)) 16
    ||| place (c (4 * k + 3)) 24
  [slot 0, slot 1, slot 2]

/-- R184: the ident length, 0 where the ident is absent. -/
def identLength (id : Option Ident) : Nat := (id.getD []).length

/-- R184: `n` characters read from three slots. -/
def readIdent (n : Nat) (ws : List Word) : Ident :=
  (List.range n).map fun i => (slotAt ws (i / 4)).extractLsb' (8 * (i % 4)) 8

/-- R190: slots 2 to 9 of READ STAND, the new-reel record. -/
def newReelSlots : Option NewReel → List Word
  | none => [0, 0, 0, 0, 0, 0, 0, 0]
  | some r =>
    [placeBit true 0 ||| placeBit r.ident.isSome 1 ||| placeBit r.diameter.isSome 2
       ||| placeBit (r.diameter.map (·.source) == some .gauge) 3 ||| placeBit r.mark.isSome 4
       ||| place (identLength r.ident) 8,
     place r.caliper 0, place ((r.diameter.map (·.value)).getD 0) 0, place ((r.mark.getD 0).toNat) 0, r.mountTime]
      ++ identSlots r.ident

/-- R190: slot 14 of READ STAND; UNBOUNDED is written as 0. -/
def remainingTimeItem : RemainingTime → Nat
  | .ms t => t
  | .unbounded => 0

/-- R190: slots 10 to 17 of READ STAND, the expiring-reel record. -/
def expiringReelSlots : Option ExpiringReel → List Word
  | none => [0, 0, 0, 0, 0, 0, 0, 0]
  | some r =>
    [placeBit true 0 ||| placeBit r.ident.isSome 1 ||| placeBit (r.origin == .spliced) 2
       ||| placeBit r.estimate.isSome 3 ||| placeBit (r.estimate.map (·.time) == some .unbounded) 4
       ||| placeBit r.lowReported 5 ||| place (identLength r.ident) 8,
     place r.caliper 0, place ((r.estimate.map (·.diameter)).getD 0) 0,
     place ((r.estimate.map (·.length)).getD 0) 0,
     place ((r.estimate.map fun e => remainingTimeItem e.time).getD 0) 0]
      ++ identSlots r.ident

/-- R190: the payload of READ STAND, slots 1 to 17. -/
def standRecord (st : Stand) : List Word :=
  [place (stateCode st.state) 0 ||| place (phaseCode st.state) 4 ||| place (faultItem st.faultCode) 8
     ||| placeBit st.auto 16 ||| placeBit st.urgent 17 ||| placeBit st.forced 18 ||| placeBit st.monitor.stale 19]
    ++ newReelSlots st.newReel ++ expiringReelSlots st.expiring

/-- R190: the six slots of a tracker entry. -/
def entrySlots (e : Entry) : List Word :=
  [place e.stand.val 0 ||| placeBit e.ident.isSome 4 ||| place (identLength e.ident) 8 ||| placeBit e.forced 12
     ||| placeBit e.holdsLock 13 ||| placeBit e.rejectIssued 14 ||| place e.next 16 ||| place (e.copies.getD 0) 24,
   e.contactTime, e.contactLength] ++ identSlots e.ident

/-- R190: the holder in READ TRACKER, kind in bits 0 to 1 and stand number in bits 4 to 7. -/
def holderItem : Holder → Word
  | .none => 0
  | .stand n => place 1 0 ||| place n.val 4
  | .entry n => place 2 0 ||| place n.val 4

/-- R190: the payload of READ TRACKER. -/
def trackerRecord (g : Group) : List Word :=
  [holderItem g.holder ||| placeBit g.held 8 ||| place g.tracker.length 12] ++ g.tracker.flatMap entrySlots

/-- R190: the group or gauge of an event, bits 16, 17 and 20 to 21. -/
def unitItem : Option EventUnit → Word
  | none => 0
  | some (.group g) => placeBit true 16 ||| place g.val 20
  | some (.gauge g) => placeBit true 16 ||| placeBit true 17 ||| place g.val 20

/-- R190: the four slots of an event record. -/
def eventSlots (e : Event) : List Word :=
  [place (eventNumber e.kind) 0 ||| placeBit e.stand.isSome 8 ||| place ((e.stand.map (·.val)).getD 0) 12
     ||| unitItem e.unit ||| placeBit e.detail.isSome 24,
   place e.cycle.toNat 0, e.time, place (e.detail.getD 0) 0]

end Sys2Proof.Machine
end

