-- ==== Sys2Proof/Machine/Ops.lean ====
section
/-!
DEFINITION. The one place where each part of the state is read and written: stands, groups, gauges, paths, the port, the
Service Responder and the work of the frame; and now (R1, R150).
-/

namespace Sys2Proof.Machine

/-- The stand `n`. -/
def State.stand (s : State) (n : StandNo) : Stand := s.stands[n.val]

/-- The group `g`. -/
def State.group (s : State) (g : GroupNo) : Group := s.groups[g.val]

/-- The gauge `g`. -/
def State.gauge (s : State) (g : GaugeNo) : Gauge := s.gauges[g.val]

/-- The path table of stand `n`. -/
def State.path (s : State) (n : StandNo) : PathTable := s.paths[n.val]

/-- The stand `n` changed by `f`, all else as it stands. -/
def State.onStand (n : StandNo) (f : Stand → Stand) (s : State) : State :=
  { s with stands := s.stands.set n.val (f (s.stand n)) }

/-- The group `g` changed by `f`, all else as it stands. -/
def State.onGroup (g : GroupNo) (f : Group → Group) (s : State) : State :=
  { s with groups := s.groups.set g.val (f (s.group g)) }

/-- The gauge `g` changed by `f`, all else as it stands. -/
def State.onGauge (g : GaugeNo) (f : Gauge → Gauge) (s : State) : State :=
  { s with gauges := s.gauges.set g.val (f (s.gauge g)) }

/-- The path table `n` changed by `f`, all else as it stands. -/
def State.onPath (n : StandNo) (f : PathTable → PathTable) (s : State) : State :=
  { s with paths := s.paths.set n.val (f (s.path n)) }

/-- The port changed by `f`, all else as it stands. -/
def State.onPort (f : Port → Port) (s : State) : State := { s with port := f s.port }

/-- The Service Responder changed by `f`, all else as it stands. -/
def State.onResponder (f : Responder → Responder) (s : State) : State := { s with responder := f s.responder }

/-- The work of the frame changed by `f`, all else as it stands. -/
def State.onFrame (f : FrameWork → FrameWork) (s : State) : State := { s with frame := f s.frame }

/-- A piece of work is taken off the work that is due. -/
def State.dropDue (w : Work) (s : State) : State := s.onFrame fun f => { f with due := f.due.filter (· != w) }

/-- R1, R150: now, the ring time of the most recently accepted cycle frame; 0 before the first. -/
def State.now (s : State) : BitVec 32 := (s.port.last.map (·.time)).getD 0

/-- R150: the cycle number of now; 0 before the first accepted frame. -/
def State.cycleNow (s : State) : BitVec 16 := (s.port.last.map (·.cycle)).getD 0

/-- R149: the last accepted cycle period; 0 before the first accepted frame. -/
def State.period (s : State) : Nat := (s.port.last.map (·.period)).getD 0

/-- R80: the execute floor at now. -/
def State.floor (s : State) : BitVec 32 := executeFloor s.now s.period s.port.effectiveLead

/-- R94: the group that a stand belongs to, by its applied entry 0. -/
def State.groupOf (s : State) (n : StandNo) : GroupNo := groupEntry (s.stand n).table

/-- R163: the held web speed is at least a minimum; an absent held value is not. -/
def Stand.fastEnough (st : Stand) : Bool :=
  match st.monitor.held with
  | some v => decide (minimumSpeed st.table ≤ v.webSpeed)
  | none => false

/-- R163: the last accepted sample shows web present; an absent held value does not. -/
def Stand.webHeld (st : Stand) : Bool :=
  match st.monitor.held with
  | some v => v.web
  | none => false

/-- R127: the stand has an entry in some group's tracker list. -/
def State.hasEntry (s : State) (n : StandNo) : Bool := s.groups.toList.any fun g => g.tracker.any (·.stand == n)

/-- The stand is the holder of its group's lock (R95). -/
def State.holdsLock (s : State) (n : StandNo) : Bool := (s.group (s.groupOf n)).holder == .stand n

/-- R2: the ten states, PASTING in any phase. -/
def StandState.isPasting : StandState → Bool
  | .pasting _ => true
  | _ => false

/-- R42: the four states that hold a stand-table load pending. -/
def StandState.defers : StandState → Bool
  | .ranging => true
  | .waiting => true
  | .accelerating => true
  | .pasting _ => true
  | _ => false

/-- R49: the states in which diameter tracking is carried out. -/
def StandState.tracks : StandState → Bool
  | .running => true
  | .loaded => true
  | .ranging => true
  | .ready => true
  | .waiting => true
  | .accelerating => true
  | .pasting _ => true
  | _ => false

/-- R4: the settled state of a stand. -/
def Stand.settled (st : Stand) : StandState :=
  if st.webHeld then
    match st.newReel with
    | some r => if r.diameter.isSome then .ready else .loaded
    | none => .running
  else .parked

end Sys2Proof.Machine
end

