-- ==== Sys2Proof/Machine/Flags.lean ====
section
/-!
DEFINITION. Attention flags and the event queue (R177, R179, R180), and the status record built from the state (R176, R189).
-/

namespace Sys2Proof.Machine

/-- R191: the flag kinds of part table entry 3 that belong to a stand. -/
inductive StandFlag where
  | fault
  | spliceDone
  | rangeResult
  | stale
  deriving DecidableEq, Repr

/-- R191: the bit of a flag kind in part table entry 3. -/
def flagBit : StandFlag → Nat
  | .fault => 0
  | .spliceDone => 1
  | .rangeResult => 2
  | .stale => 3

/-- One of a stand's flags set. -/
def withFlag (k : StandFlag) (f : StandFlags) : StandFlags :=
  match k with
  | .fault => { f with fault := true }
  | .spliceDone => { f with spliceDone := true }
  | .rangeResult => { f with rangeResult := true }
  | .stale => { f with stale := true }

/-- The four flags of stand `n`. -/
def State.flagsOf (s : State) (n : StandNo) : StandFlags := s.responder.flags[n.val]

/-- The four flags of stand `n` put to `f`. -/
def State.putFlags (n : StandNo) (f : StandFlags) (s : State) : State :=
  s.onResponder fun r => { r with flags := r.flags.set n.val f }

/-- R177: a stand's attention flag is set at its change of condition, where the attention mask admits the kind. -/
def State.raiseFlag (n : StandNo) (k : StandFlag) (s : State) : State :=
  if maskBit s.responder.table (flagBit k) then s.putFlags n (withFlag k (s.flagsOf n)) else s

/-- R177, R167: the part's RING flag, mask bit 5. -/
def State.raiseRing (s : State) : State :=
  if maskBit s.responder.table 5 then s.onResponder fun r => { r with ringFlag := true } else s

/-- R179: an event record is appended; on an empty queue the EVENTS flag is set where the mask admits it (bit 4); on a full
queue the record is discarded and the overflow flag set. -/
def Responder.append (e : Event) (r : Responder) : Responder :=
  if Config.eventCapacity ≤ r.events.length then { r with overflow := true }
  else
    { r with
      events := r.events ++ [e]
      eventsFlag := r.eventsFlag || (r.events.isEmpty && maskBit r.table 4) }

/-- R180, R150: an event is taken, stamped with the cycle number and ring time of now. -/
def State.takeEvent (kind : EventKind) (stand : Option StandNo) (unit : Option EventUnit) (detail : Option Nat)
    (s : State) : State :=
  s.onResponder (Responder.append
    { kind := kind, stand := stand, unit := unit, cycle := s.cycleNow, time := s.now, detail := detail })

/-- An event that names a stand alone. -/
def State.standEvent (kind : EventKind) (n : StandNo) (s : State) : State := s.takeEvent kind (some n) none none

/-- R111: the lock indication of a stand: 0 NONE, 1 STAND, 2 ENTRY. -/
def State.lockIndication (s : State) (n : StandNo) : Nat :=
  if s.holdsLock n then 1 else if s.groups.toList.any (·.holder == .entry n) then 2 else 0

/-- R189: the status slot of a stand. -/
def State.standStatus (s : State) (n : StandNo) : Word :=
  let st := s.stand n
  let f := s.flagsOf n
  place (stateCode st.state) 0 ||| place (phaseCode st.state) 4 ||| place (faultItem st.faultCode) 8
    ||| placeBit f.fault 12 ||| placeBit f.spliceDone 13 ||| placeBit f.rangeResult 14 ||| placeBit f.stale 15
    ||| placeBit st.auto 16 ||| placeBit st.forced 17 ||| place (s.lockIndication n) 20

/-- R189: the part-wide status slot. -/
def State.partStatus (s : State) : Word :=
  placeBit (s.port.ring == .lost) 0 ||| placeBit s.responder.overflow 1 ||| placeBit s.responder.eventsFlag 2
    ||| placeBit s.responder.ringFlag 3 ||| place s.responder.events.length 8

/-- R176, R189: the status record of 20 slots. -/
def State.statusRecord (s : State) : List Word :=
  s.partStatus :: (List.finRange 8).map s.standStatus ++ List.replicate 11 0

end Sys2Proof.Machine
end

