-- ==== Sys2Proof/Machine/Tables.lean ====
section
/-!
DEFINITION. Table loads: the run of a load, the slot field map and the placement check (R151, R152), an applied load with
its effects (R43, R122, R141, R143, R153), and the application of a load held pending (R45, R122, R141, R143).
-/

namespace Sys2Proof.Machine

/-- R170: a load's values written over the entries of its run. -/
def Load.over {k : Nat} (l : Load) (t : Vector Word k) : Vector Word k :=
  l.values.zipIdx.foldl (fun t v => t.setIfInBounds (l.first + v.2) v.1) t

/-- R42, step 1 of every owner: the run, of at most 16 entries (R170), keeps within the entries, and every value lies in its
entry's range. -/
def Load.inRange (l : Load) (entries : Nat) (bounds : Nat → Bounds) : Bool :=
  decide (l.values.length ≤ 16 ∧ l.first + l.values.length ≤ entries) && l.values.zipIdx.all fun v => withinBounds (bounds (l.first + v.2)) v.1

/-! ### The slot field map (R151) -/

/-- The output fields that the SQ8 writes (R151). -/
inductive OutputField where
  | status
  | stand (n : StandNo)
  | gauge (g : GaugeNo)
  | folder (g : GroupNo)
  | hold (slot : Nat)
  deriving DecidableEq, Repr

/-- A field with its base and length in slots. -/
structure Placed (α : Type) where
  field : α
  base : Nat
  len : Nat
  deriving DecidableEq, Repr

/-- R156: a field lies within a frame of `count` slots. -/
def Placed.within {α : Type} (p : Placed α) (count : Nat) : Bool := decide (p.base + p.len ≤ count)

/-- R151: the input fields of the map. -/
def State.inputFields (s : State) : List (Placed InputField) :=
  (List.finRange 8).filterMap (fun n =>
      if (s.stand n).loaded then some ⟨.stand n, sampleBase (s.stand n).table, 8⟩ else none)
    ++ (List.finRange 4).filterMap (fun g =>
      if (s.gauge g).loaded then some ⟨.gauge g, gaugeSampleBase (s.gauge g).table, 3⟩ else none)
    ++ (List.finRange 4).filterMap (fun g =>
      if (s.group g).loaded then some ⟨.folder g, folderSampleBase (s.group g).table, 2⟩ else none)

/-- R151: the hold slots that a path table names. -/
def holdFields (t : PathEntries) : List (Placed OutputField) :=
  (holdCheckpoints t).map fun c => ⟨.hold (holdSlot t c), holdSlot t c, 1⟩

/-- R151: the status field, at the base that part table entry 2 holds. -/
def statusField (t : PartTable) : Placed OutputField := ⟨.status, statusBaseEntry t, 20⟩

/-- R151: a stand's command field. -/
def standField (n : StandNo) (t : StandTable) : Placed OutputField := ⟨.stand n, commandBase t, 6⟩

/-- R151: a gauge's command field. -/
def gaugeField (g : GaugeNo) (t : GaugeTable) : Placed OutputField := ⟨.gauge g, gaugeCommandBase t, 2⟩

/-- R151: a group's folder command field. -/
def folderField (g : GroupNo) (t : GroupTable) : Placed OutputField := ⟨.folder g, folderCommandBase t, 2⟩

/-- R151: the output fields of the map but the status field. -/
def State.commandFields (s : State) : List (Placed OutputField) :=
  (List.finRange 8).filterMap (fun n =>
      if (s.stand n).loaded then some (standField n (s.stand n).table) else none)
    ++ (List.finRange 4).filterMap (fun g =>
      if (s.gauge g).loaded then some (gaugeField g (s.gauge g).table) else none)
    ++ (List.finRange 4).filterMap (fun g =>
      if (s.group g).loaded then some (folderField g (s.group g).table) else none)
    ++ (List.finRange 8).flatMap (fun n => holdFields (s.path n).table)

/-- R156: every field of the map lies within a frame of `count` slots. -/
def State.allWithin (s : State) (count : Nat) : Bool :=
  (statusField s.responder.table).within count && s.inputFields.all (·.within count)
    && s.commandFields.all (·.within count)

/-! ### The placement check (R152) -/

/-- A table instance. -/
inductive TableId where
  | part
  | stand (n : StandNo)
  | path (n : StandNo)
  | group (g : GroupNo)
  | gauge (g : GaugeNo)
  deriving DecidableEq, Repr

/-- Every table instance. -/
def allTables : List TableId :=
  .part :: (List.finRange 8).map .stand ++ (List.finRange 8).map .path ++ (List.finRange 4).map .group
    ++ (List.finRange 4).map .gauge

/-- R152: the output fields that an instance has in the map and those that its pending load would place. -/
def State.fieldsOf (s : State) : TableId → List (Placed OutputField)
  | .part => [statusField s.responder.table]
  | .stand n =>
    (if (s.stand n).loaded then [standField n (s.stand n).table] else [])
      ++ ((s.stand n).pendingLoad.map fun l => standField n (l.over (s.stand n).table)).toList
  | .path n =>
    holdFields (s.path n).table
      ++ (((s.path n).pendingLoad.map fun l => holdFields (l.over (s.path n).table)).getD [])
  | .group g =>
    (if (s.group g).loaded then [folderField g (s.group g).table] else [])
      ++ ((s.group g).pendingLoad.map fun l => folderField g (l.over (s.group g).table)).toList
  | .gauge g =>
    (if (s.gauge g).loaded then [gaugeField g (s.gauge g).table] else [])
      ++ ((s.gauge g).pendingLoad.map fun l => gaugeField g (l.over (s.gauge g).table)).toList

/-- A hold slot. -/
def OutputField.isHold : OutputField → Bool
  | .hold _ => true
  | _ => false

/-- R152: two output fields share a slot and are not both hold slots. -/
def conflict (a b : Placed OutputField) : Bool :=
  decide (a.base < b.base + b.len ∧ b.base < a.base + a.len) && !(a.field.isHold && b.field.isHold)

/-- R152: the fields that a load of an instance would place are clear of the fields of every other instance. -/
def State.placeable (s : State) (id : TableId) (own : List (Placed OutputField)) : Bool :=
  own.all fun a => allTables.all fun o => o == id || (s.fieldsOf o).all fun b => !conflict a b

/-! ### Applied loads -/

/-- R153: the monitor of a field that enters the map, or whose base moves, or that a load does not touch. -/
def movedMonitor {α : Type} (wasIn moved : Bool) (m : Monitor α) : Monitor α :=
  if !wasIn then Monitor.initial else if moved then { m with history := none } else m

/-- R153, R143: as `movedMonitor`, and a moved folder field's held value becomes absent. -/
def movedFolderMonitor (wasIn moved : Bool) (m : Monitor Nat) : Monitor Nat :=
  if !wasIn then Monitor.initial else if moved then { m with history := none, held := none } else m

/-- The field is in the map at this frame and not yet judged (R147 step 8, R161). -/
def State.unjudged (s : State) (f : InputField) : Bool := s.frame.handed.any (·.1 == f)

/-- R153: a load that moves a field changes the field's treatment from the next accepted frame on. A field that this frame's
judgement has not reached keeps its monitor until then, and is marked as moved. -/
def markMoved (f : InputField) (moved : Bool) (s : State) : State :=
  if s.unjudged f && moved then s.onFrame fun w => { w with moved := w.moved ++ [f] } else s

/-- R43, R40: a stand-table load applied. -/
def applyStandLoad (n : StandNo) (l : Load) (s : State) : State :=
  let t := l.over (s.stand n).table
  let moved := sampleBase t != sampleBase (s.stand n).table
  markMoved (.stand n) moved <| s.onStand n fun st =>
    { st with
      table := t
      loaded := true
      monitor := if s.unjudged (.stand n) then st.monitor else movedMonitor st.loaded moved st.monitor }

/-- R122: a gauge-table load applied. -/
def applyGaugeLoad (g : GaugeNo) (l : Load) (s : State) : State :=
  let t := l.over (s.gauge g).table
  let moved := gaugeSampleBase t != gaugeSampleBase (s.gauge g).table
  markMoved (.gauge g) moved <| s.onGauge g fun u =>
    { u with
      table := t
      loaded := true
      monitor := if s.unjudged (.gauge g) then u.monitor else movedMonitor u.loaded moved u.monitor }

/-- R143: a group-table load applied. -/
def applyGroupLoad (g : GroupNo) (l : Load) (s : State) : State :=
  let t := l.over (s.group g).table
  let moved := folderSampleBase t != folderSampleBase (s.group g).table
  markMoved (.folder g) moved <| s.onGroup g fun u =>
    { u with
      table := t
      loaded := true
      monitor := if s.unjudged (.folder g) then u.monitor else movedFolderMonitor u.loaded moved u.monitor }

/-- R141: a path-table load applied. -/
def applyPathLoad (n : StandNo) (l : Load) (s : State) : State :=
  s.onPath n fun p => { p with table := l.over p.table, loaded := true }

/-- R155: the effective command lead, from part table entry 0 and the last accepted period. -/
def State.leadNow (s : State) : Nat := max (commandLead s.responder.table) (2 * s.period)

/-- R173: a part-table load applied; the effective command lead is computed afresh. -/
def applyPartLoad (l : Load) (s : State) : State :=
  let t := s.onResponder fun r => { r with table := l.over r.table, loaded := true }
  t.onPort fun p => { p with effectiveLead := t.leadNow }

/-! ### Loads held pending, applied -/

/-- R45: the stand's pending load applied, with TABLE_APPLIED. -/
def releaseStandLoad (n : StandNo) (s : State) : State :=
  match (s.stand n).pendingLoad with
  | some l =>
    (((applyStandLoad n l s).onStand n fun st => { st with pendingLoad := none }).standEvent .tableApplied n)
  | none => s

/-- R122: the gauge's pending load applied, with TABLE_APPLIED. -/
def releaseGaugeLoad (g : GaugeNo) (s : State) : State :=
  match (s.gauge g).pendingLoad with
  | some l =>
    ((applyGaugeLoad g l s).onGauge g fun u => { u with pendingLoad := none }).takeEvent
      .tableApplied none (some (.gauge g)) none
  | none => s

/-- R143: the group's pending load applied, with TABLE_APPLIED. -/
def releaseGroupLoad (g : GroupNo) (s : State) : State :=
  match (s.group g).pendingLoad with
  | some l =>
    ((applyGroupLoad g l s).onGroup g fun u => { u with pendingLoad := none }).takeEvent
      .tableApplied none (some (.group g)) none
  | none => s

/-- R141: the path table's pending load applied, with TABLE_APPLIED. -/
def releasePathLoad (n : StandNo) (s : State) : State :=
  match (s.path n).pendingLoad with
  | some l =>
    (((applyPathLoad n l s).onPath n fun p => { p with pendingLoad := none }).standEvent .tableApplied n)
  | none => s

/-- R45: a pending stand-table load is applied once the stand is outside the four deferring states. -/
def settleStand (n : StandNo) (s : State) : State :=
  if (s.stand n).state.defers then s else releaseStandLoad n s

/-- R122: a pending gauge-table load is applied once the gauge is IDLE. -/
def settleGauge (g : GaugeNo) (s : State) : State :=
  if (s.gauge g).state == .idle then releaseGaugeLoad g s else s

/-- R143: a pending group-table load is applied once the group has no holder and an empty list. -/
def settleGroup (g : GroupNo) (s : State) : State :=
  if (s.group g).holder == .none && (s.group g).tracker.isEmpty then releaseGroupLoad g s else s

/-- R141: a pending path-table load is applied once the stand has no entry in any list. -/
def settlePath (n : StandNo) (s : State) : State :=
  if s.hasEntry n then s else releasePathLoad n s

end Sys2Proof.Machine
end

