-- ==== Sys2Proof/Machine/Locks.lean ====
section
/-!
DEFINITION. The Group Lock Unit (chapter 5): the waiting set, giving back, the grant with its key, and the entry to
ACCELERATING that a grant or a forced start makes (R25, R99, R24).
-/

namespace Sys2Proof.Machine

/-- R96: the stand joins the waiting set of its group. -/
def joinWaiting (n : StandNo) (s : State) : State :=
  s.onGroup (s.groupOf n) fun g => { g with waiting := g.waiting.set n.val true }

/-- R96: the stand leaves the waiting set of its group. -/
def leaveWaiting (n : StandNo) (s : State) : State :=
  s.onGroup (s.groupOf n) fun g => { g with waiting := g.waiting.set n.val false }

/-- R5: the stand withdraws its wait. -/
def withdrawWait (n : StandNo) (s : State) : State :=
  (leaveWaiting n s).onStand n fun st => { st with urgent := false, forced := false }

/-- R109: the group's lock is released by stand `n` or its entry: the holder becomes none, with LOCK_RELEASED. -/
def releaseLock (g : GroupNo) (n : StandNo) (s : State) : State :=
  (s.onGroup g fun u => { u with holder := .none }).takeEvent .lockReleased (some n) (some (.group g)) none

/-- R5: the stand gives back the lock, where it is the holder of its group's lock. -/
def giveBackLock (n : StandNo) (s : State) : State :=
  if s.holdsLock n then releaseLock (s.groupOf n) n s else s

/-- R5, R71: the stand stops the new reel: BRAKE, no reference, no schedule, no execute times. -/
def stopNewReel (n : StandNo) (s : State) : State :=
  s.onStand n fun st =>
    { st with rotation := .brake, rotationRef := 0, schedule := none, brushAt := none, knifeAt := none }

/-- R70: n_ref of a stand for web speed `v`, where its new reel has a diameter; else as it stands (DESIGN CHOICE, log entry 17). -/
def Stand.reference (st : Stand) (v : Nat) : Nat :=
  match st.newReel.bind (·.diameter) with
  | some d => rotationReference v d.value (speedTrim st.table) (rotationLimit st.table)
  | none => st.rotationRef

/-- R163: the held web speed; taken as 0 where no sample has been accepted. -/
def Stand.heldSpeed (st : Stand) : Nat := (st.monitor.held.map (·.webSpeed)).getD 0

/-- R25, R68: the paste schedule at entry to ACCELERATING. -/
def Stand.newSchedule (st : Stand) (now : BitVec 32) : PasteSchedule :=
  { matchCount := 0, markCount := 0, lastMark := none
    markReference := (st.monitor.held.map (·.markCount)).getD 0
    matchDeadline :=
      addMs now (accelerationTime st.heldSpeed (acceleration st.table) + settleTime st.table + matchAllowance st.table)
    advanceDeadline := none, contactTime := none, brushTime := none, confirmDeadline := none, confirmReference := none
    knifeTime := none, knifeReference := none }

/-- R25: entry to ACCELERATING, from the held web speed; the mark angle of the new reel becomes absent (R33). -/
def enterAccelerating (n : StandNo) (s : State) : State :=
  s.onStand n fun st =>
    { st with
      state := .accelerating
      schedule := some (st.newSchedule s.now)
      newReel := st.newReel.map fun r => { r with mark := none }
      rotation := .accel
      rotationRef := st.reference st.heldSpeed }

/-- R22: entry to WAITING; `urgent` where the entry is by SPLICE-NOW. -/
def enterWaiting (n : StandNo) (urgent : Bool) (s : State) : State :=
  joinWaiting n (s.onStand n fun st => { st with state := .waiting, urgent := urgent, forced := false })

/-- R24: a forced start: out of the waiting set, the urgent mark cleared, the forced mark kept, the lock untouched. -/
def startForced (n : StandNo) (s : State) : State :=
  enterAccelerating n ((leaveWaiting n s).onStand n fun st => { st with urgent := false })

/-! ### The grant (R97 to R99) -/

/-- R59, R98: a stand's key; none stands for UNBOUNDED. -/
def Stand.key (st : Stand) : Option Nat :=
  if st.urgent then some 0
  else
    match st.expiring.bind (·.estimate) with
    | some e => (match e.time with | .ms t => some t | .unbounded => none)
    | none => none

/-- R98: keys are compared as whole numbers, UNBOUNDED greater than every number. -/
def keyBelow : Option Nat → Option Nat → Bool
  | some a, some b => decide (a < b)
  | some _, none => true
  | none, _ => false

/-- R97: a stand of the waiting set is eligible. -/
def State.eligible (s : State) (g : GroupNo) (n : StandNo) : Bool :=
  (s.group g).waiting[n.val] && (s.stand n).fastEnough && !s.hasEntry n

/-- R98: the stand with the smallest key among a list in rising order, the first of equals. Of an urgent stand (key 0) and an
unmarked one whose remaining time is 0 ms, R98 serves the lower number and R102 the urgent one: R98 is followed here
(DESIGN CHOICE, log entry 20). -/
def smallestKey (s : State) : List StandNo → Option StandNo
  | [] => none
  | n :: ns =>
    match smallestKey s ns with
    | none => some n
    | some m => if keyBelow (s.stand m).key (s.stand n).key then some m else some n

/-- R97, R98: the stand to which a grant of the group's lock goes at this moment, if one is made. -/
def State.grantee (s : State) (g : GroupNo) : Option StandNo :=
  if !(s.group g).held && (s.group g).holder == .none then
    smallestKey s ((List.finRange 8).filter (s.eligible g))
  else none

/-- R99: the group's lock granted to a stand. -/
def grantTo (g : GroupNo) (n : StandNo) (s : State) : State :=
  let granted := (s.onGroup g fun u => { u with waiting := u.waiting.set n.val false, holder := .stand n }).takeEvent
    .lockGranted (some n) (some (.group g)) none
  enterAccelerating n (granted.onStand n fun st => { st with urgent := false, forced := false })

/-- R97: the consideration of a grant for a group. -/
def considerGrant (g : GroupNo) (s : State) : State :=
  match s.grantee g with
  | some n => grantTo g n s
  | none => s

/-- R143, R109: the group's grant is still due at this frame and goes before the application of its pending load, and the group
has come to have no holder and an empty list. -/
def State.grantGoesFirst (s : State) (g : GroupNo) : Bool :=
  (s.group g).pendingLoad.isSome && (s.group g).holder == .none && (s.group g).tracker.isEmpty
    && s.frame.grantFirst.contains g && s.frame.due.contains (.grant g)

/-- R143, R109: what follows a release of the group's lock or the removal of an entry: a pending group-table load is applied where
nothing holds it. Where the plan takes the grant of this frame first, a grant that is made keeps the load pending. -/
def settleReleased (g : GroupNo) (s : State) : State :=
  settleGroup g (if s.grantGoesFirst g then considerGrant g (s.dropDue (.grant g)) else s)

end Sys2Proof.Machine
end

