-- ==== Sys2Proof/Machine/Gauges.lean ====
section
/-!
DEFINITION. The Gauge Scheduler (chapter 6): the queue, the start, the result, the timeout, the cancel, and ring loss.
-/

namespace Sys2Proof.Machine

/-- R114, R16: the stand is appended at the tail of a gauge's queue. -/
def joinQueue (g : GaugeNo) (n : StandNo) (s : State) : State :=
  s.onGauge g fun u => { u with queue := u.queue ++ [n] }

/-- R120: the current measurement is cancelled: CANCEL under the same sequence value, the deadline set afresh. -/
def cancelMeasure (g : GaugeNo) (s : State) : State :=
  s.onGauge g fun u => { u with state := .cancelling (addMs s.now (measureTimeout u.table)) }

/-- The stand is the gauge's current measurement (R112). -/
def Gauge.measures (u : Gauge) (n : StandNo) : Bool :=
  match u.state with
  | .measuring m _ => m == n
  | _ => false

/-- R114, R120: a stand leaves RANGING: its gauge cancels where it is the current measurement, else it leaves the queue. -/
def leaveGauge (n : StandNo) (s : State) : State :=
  match gaugeEntry (s.stand n).table with
  | some g =>
    if (s.gauge g).measures n then cancelMeasure g s
    else s.onGauge g fun u => { u with queue := u.queue.filter (· != n) }
  | none => s

/-- R117: the start of a measurement of the head stand, under the next sequence value. -/
def startMeasure (g : GaugeNo) (s : State) : State :=
  s.onGauge g fun u =>
    match u.queue with
    | n :: rest =>
      { u with
        queue := rest
        sequence := u.sequence + 1
        state := .measuring n (addMs s.now (measureTimeout u.table)) }
    | [] => u

/-- The gauge becomes IDLE, and its pending load is applied (R118 to R122). -/
def becomeIdle (g : GaugeNo) (s : State) : State :=
  settleGauge g (s.onGauge g fun u => { u with state := .idle })

/-- R118: the diameter that a measured distance gives. -/
def convertDistance (reference distance : Nat) : Int := 2 * (reference : Int) - 2 * (distance : Int)

/-- R118: the diameter of an accepted result; none for a refused one. -/
def acceptedDiameter (t : StandTable) (v : GaugeSample) : Option Nat :=
  let d := convertDistance (gaugeReference t) v.distance
  if v.valid && decide ((coreDiameter t : Int) + 1 ≤ d ∧ d ≤ 15000) then some d.toNat else none

/-- R118: the result of stand `n`'s measurement is judged: RANGE_DONE and READY, or RANGE_BAD and LOADED; then the stand's
pending load is applied. -/
def judgeResult (g : GaugeNo) (n : StandNo) (v : GaugeSample) (s : State) : State :=
  match acceptedDiameter (s.stand n).table v with
  | some d =>
    let t := s.onStand n fun st =>
      { st with state := .ready, newReel := st.newReel.map fun r => { r with diameter := some ⟨d, .gauge⟩ } }
    settleStand n ((t.takeEvent .rangeDone (some n) (some (.gauge g)) (some d)).raiseFlag n .rangeResult)
  | none =>
    let t := s.onStand n fun st => { st with state := .loaded }
    settleStand n (t.takeEvent .rangeBad (some n) (some (.gauge g)) (if v.valid then some v.distance else none))

/-- R119, R121: GAUGE_TIMEOUT for the measured stand, which goes to LOADED with its pending load applied; the gauge becomes
IDLE. -/
def timeoutMeasure (g : GaugeNo) (n : StandNo) (s : State) : State :=
  let t := (s.takeEvent .gaugeTimeout (some n) (some (.gauge g)) none).onStand n fun st => { st with state := .loaded }
  becomeIdle g (settleStand n t)

/-- R120: the cancel deadline reached: GAUGE_TIMEOUT without a stand; the gauge becomes IDLE. -/
def timeoutCancel (g : GaugeNo) (s : State) : State :=
  settleGauge g ((s.onGauge g fun u => { u with state := .idle }).takeEvent .gaugeTimeout none (some (.gauge g)) none)

/-- R116 step 1, first part, at an accepted sample: the result test in MEASURING, the end of the cancel in CANCELLING. -/
def gaugeResultWork (g : GaugeNo) (s : State) : State :=
  match (s.gauge g).monitor.held with
  | some v =>
    match (s.gauge g).state with
    | .measuring n _ =>
      if v.completed = (s.gauge g).sequence then becomeIdle g (judgeResult g n v s) else s
    | .cancelling _ => if v.busy then s else becomeIdle g s
    | .idle => s
  | none => s

/-- R117: the start test at an accepted sample. -/
def gaugeStartWork (g : GaugeNo) (s : State) : State :=
  match (s.gauge g).monitor.held with
  | some v => if (s.gauge g).state == .idle && !v.busy then startMeasure g s else s
  | none => s

/-- R116 step 3: the deadline of the state that the gauge is in. -/
def gaugeDeadlineWork (g : GaugeNo) (s : State) : State :=
  match (s.gauge g).state with
  | .measuring n d => if reached s.now d then timeoutMeasure g n s else s
  | .cancelling d => if reached s.now d then timeoutCancel g s else s
  | .idle => s

/-- R121: ring loss at a gauge. -/
def gaugeRingLoss (g : GaugeNo) (s : State) : State :=
  match (s.gauge g).state with
  | .measuring n _ => timeoutMeasure g n s
  | _ => s

end Sys2Proof.Machine
end

