-- ==== Sys2Proof/Machine/Tracker.lean ====
section
/-!
DEFINITION. The Splice Tracker (chapter 7): the append at confirmation, HOLD checkpoints, the reject, the clearance, and the
missed test at the return of the ring.
-/

namespace Sys2Proof.Machine

/-- R125: the stand's entry in a group's list. -/
def Group.entryOf (g : Group) (n : StandNo) : Option Entry := g.tracker.find? (·.stand == n)

/-- R125: the group whose list holds the stand's entry, with the entry. -/
def State.entryOf (s : State) (n : StandNo) : Option (GroupNo × Entry) :=
  (List.finRange 4).findSome? fun g => ((s.group g).entryOf n).map fun e => (g, e)

/-- The stand's entry in group `g`'s list changed by `f`. -/
def onEntry (g : GroupNo) (n : StandNo) (f : Entry → Entry) (s : State) : State :=
  s.onGroup g fun u => { u with tracker := u.tracker.map fun e => if e.stand = n then f e else e }

/-- R82, R127, R105: the entry appended at the tail of the stand's group's list, and the lock handed over to it where the
stand was the holder; no event is taken. -/
def appendEntry (n : StandNo) (contact length : BitVec 32) (s : State) : State :=
  let st := s.stand n
  let e : Entry :=
    { stand := n, ident := st.newReel.bind (·.ident), contactTime := contact, contactLength := length,
      forced := st.forced, holdsLock := s.holdsLock n, next := 0, rejectIssued := false, copies := none }
  s.onGroup (s.groupOf n) fun u =>
    { u with tracker := u.tracker ++ [e], holder := if u.holder = .stand n then .entry n else u.holder }

/-! ### Points of an entry (R129) -/

/-- R129: HOLD checkpoint `c` of an entry. -/
def holdPoint (p : PathEntries) (e : Entry) (c : Nat) : BitVec 32 := e.contactLength + BitVec.ofNat 32 (pathLength p c)

/-- R129: the reject point of an entry. -/
def rejectPointOf (p : PathEntries) (t : GroupTable) (e : Entry) : BitVec 32 :=
  e.contactLength + BitVec.ofNat 32 (folderLength p) - BitVec.ofNat 32 (preMargin t)

/-- R129: the clearance point of an entry. -/
def clearancePointOf (p : PathEntries) (t : GroupTable) (e : Entry) : BitVec 32 :=
  e.contactLength + BitVec.ofNat 32 (folderLength p) + BitVec.ofNat 32 (clearance t)

/-- R126: the entry waits for a HOLD checkpoint. -/
def Entry.atHold (p : PathEntries) (e : Entry) : Bool := decide (e.next < checkpointCount p) && isHold p e.next

/-! ### HOLD checkpoints (R130 step 2, R131) -/

/-- R131, R132: the hold window of checkpoint `c` prepared for its slot. -/
def prepareWindow (p : PathEntries) (c : Nat) (s : State) : State :=
  { s with windows := s.windows ++ [(holdSlot p c, holdWindow p c)] }

/-- R130 step 2: while the next checkpoint names a HOLD checkpoint that the count has reached, its window is prepared and
the next checkpoint moves on; at most as many as a path has. -/
def passHolds (g : GroupNo) (n : StandNo) (count : BitVec 32) : Nat → State → State
  | 0, s => s
  | fuel + 1, s =>
    match (s.group g).entryOf n with
    | some e =>
      let p := (s.path n).table
      if e.atHold p && reached count (holdPoint p e e.next) then
        passHolds g n count fuel (onEntry g n (fun e => { e with next := e.next + 1 }) (prepareWindow p e.next s))
      else s
    | none => s

/-! ### The reject (R130 step 3, R133, R134) -/

/-- R134: one reject order a frame for the group: the order number rises at the first, the copy count is the largest. -/
def prepareReject (g : GroupNo) (copies : Nat) (s : State) : State :=
  s.onGroup g fun u =>
    if u.orderPrepared then { u with copyCount := max u.copyCount copies }
    else { u with orderNumber := u.orderNumber + 1, copyCount := copies, orderPrepared := true }

/-- R133, R135: the copies that an entry of stand `n` orders in group `g` at this moment. -/
def State.copiesFor (s : State) (g : GroupNo) (n : StandNo) : Nat :=
  let t := (s.group g).table
  copiesOrdered (rejectCopies (preMargin t) (spliceExtent (s.stand n).table) (postMargin t) (cutoff t))
    ((s.group g).monitor.held.getD 0)

/-- R133: the entry at its reject point: copies ordered, reject issued, REJECT_ISSUED, and the folder's order. -/
def issueReject (g : GroupNo) (n : StandNo) (s : State) : State :=
  let c := s.copiesFor g n
  let t := onEntry g n (fun e => { e with rejectIssued := true, copies := some c }) s
  prepareReject g c (t.takeEvent .rejectIssued (some n) (some (.group g)) (some c))

/-! ### Removal (R136, R138) -/

/-- R136, R108: the entry leaves its list; the lock is released where it held it; then the path table's and the group table's
pending loads are applied where they now can be. -/
def removeEntry (g : GroupNo) (n : StandNo) (holds : Bool) (s : State) : State :=
  let t := s.onGroup g fun u => { u with tracker := u.tracker.filter (·.stand != n) }
  let t := if holds then releaseLock g n t else t
  settleReleased g (settlePath n t)

/-- R138: the missed entry removed, with REJECT_MISSED before the lock's release. -/
def removeMissed (g : GroupNo) (n : StandNo) (holds : Bool) (s : State) : State :=
  let t := s.onGroup g fun u => { u with tracker := u.tracker.filter (·.stand != n) }
  let t := t.takeEvent .rejectMissed (some n) (some (.group g)) none
  let t := if holds then releaseLock g n t else t
  settleReleased g (settlePath n t)

/-! ### The pieces of an entry's handling -/

/-- The web length count that the Sample Monitor holds for a stand (R138, R163). -/
def State.heldLength (s : State) (n : StandNo) : Option (BitVec 32) := (s.stand n).monitor.held.map (·.length)

/-- R138: the missed test of the stand's entry. -/
def recoverWork (n : StandNo) (s : State) : State :=
  match s.entryOf n, s.heldLength n with
  | some (g, e), some count =>
    if !e.rejectIssued && reached count (rejectPointOf (s.path n).table (s.group g).table e) then
      removeMissed g n e.holdsLock s
    else s
  | _, _ => s

/-- R130 step 2 at an accepted sample. -/
def holdsWork (n : StandNo) (s : State) : State :=
  match s.entryOf n, s.heldLength n with
  | some (g, _), some count => passHolds g n count 4 s
  | _, _ => s

/-- R130 step 3 at an accepted sample. -/
def rejectWork (n : StandNo) (s : State) : State :=
  match s.entryOf n, s.heldLength n with
  | some (g, e), some count =>
    if !e.atHold (s.path n).table && !e.rejectIssued
        && reached count (rejectPointOf (s.path n).table (s.group g).table e) then
      issueReject g n s
    else s
  | _, _ => s

/-- R130 step 4 at an accepted sample. -/
def clearWork (n : StandNo) (s : State) : State :=
  match s.entryOf n, s.heldLength n with
  | some (g, e), some count =>
    if e.rejectIssued && reached count (clearancePointOf (s.path n).table (s.group g).table e) then
      removeEntry g n e.holdsLock s
    else s
  | _, _ => s

end Sys2Proof.Machine
end

