-- ==== Sys2Proof/Machine/Splice.lean ====
section
/-!
DEFINITION. The stand sequencer at a cycle frame (R8): diameter tracking (R49), the transitions of each state at an accepted
sample (R21 to R28, R39, R72 to R87), the deadlines (R26, R77, R83, R88), the entry to FAULT (R29), and ring loss (R31).
-/

namespace Sys2Proof.Machine

/-! ### Entry to FAULT (R29, R88) -/

/-- R29, R88: the command values prepared at an entry to FAULT: HOLD after KNIFE_FAIL, BRAKE with every other code. -/
def faultRotation : FaultCode → RotationMode
  | .knifeFail => .hold
  | _ => .brake

/-- R29: the stand enters FAULT: the code, its event, the FAULT flag, the lock given back, the marks and the schedule cleared,
the command values; then the loads that the exit applies (R45, R143). -/
def enterFault (n : StandNo) (c : FaultCode) (s : State) : State :=
  let g := s.groupOf n
  let t := s.onStand n fun st => { st with state := .fault, faultCode := some c }
  let t := (t.takeEvent (faultEvent c) (some n) none (some (faultNumber c))).raiseFlag n .fault
  let t := (giveBackLock n t).onStand n fun st =>
    { st with
      urgent := false, forced := false, schedule := none, rotation := faultRotation c, rotationRef := 0,
      arm := .retract, brushAt := none, knifeAt := none }
  settleReleased g (settleStand n t)

/-! ### Diameter tracking, low reels and web loss -/

/-- R49: diameter tracking of the stand's expiring reel with a sample. -/
def trackStand (n : StandNo) (v : StandSample) (s : State) : State :=
  s.onStand n fun st =>
    { st with expiring := st.expiring.map fun r => trackReel r (coreDiameter st.table) (spliceDiameter st.table) v }

/-- R39: the diameter estimate that REEL_LOW reports, where it is taken. -/
def Stand.reelLow (st : Stand) : Option Nat :=
  match st.expiring with
  | some r =>
    match r.estimate with
    | some e => if decide (e.length ≤ forcedMargin st.table) && !r.lowReported then some e.diameter else none
    | none => none
  | none => none

/-- R39: the REEL_LOW test of a stand in RUNNING, LOADED or RANGING. -/
def reportReelLow (n : StandNo) (s : State) : State :=
  match (s.stand n).reelLow with
  | some d =>
    (s.takeEvent .reelLow (some n) none (some d)).onStand n fun st =>
      { st with expiring := st.expiring.map fun r => { r with lowReported := true } }
  | none => s

/-- R28: web loss in RUNNING, LOADED, RANGING, READY or WAITING: PARKED with WEB_LOST; a RANGING stand leaves its gauge, a
WAITING stand withdraws its wait. -/
def loseWeb (n : StandNo) (s : State) : State :=
  let t :=
    match (s.stand n).state with
    | .ranging => leaveGauge n s
    | .waiting => withdrawWait n s
    | _ => s
  settleStand n ((t.onStand n fun st => { st with state := .parked }).standEvent .webLost n)

/-! ### READY and WAITING -/

/-- R63: the lead that stage D computes for a stand and web speed, where its new reel has a diameter. -/
def State.leadOf (s : State) (n : StandNo) (v : Nat) : Option Nat :=
  let st := s.stand n
  (st.newReel.bind (·.diameter)).map fun d =>
    leadTime v (acceleration st.table) (settleTime st.table) (setupTime st.table) d.value s.port.effectiveLead

/-- R58: the remaining time in ms, where it is present and not UNBOUNDED. -/
def Stand.remainingMs (st : Stand) : Option Nat :=
  match st.expiring.bind (·.estimate) with
  | some e => (match e.time with | .ms t => some t | .unbounded => none)
  | none => none

/-- R21: the automatic trigger fires. -/
def State.triggers (s : State) (n : StandNo) : Bool :=
  (s.stand n).auto && (s.stand n).fastEnough && !s.hasEntry n
    && match (s.stand n).remainingMs, s.leadOf n (s.stand n).heldSpeed with
       | some t, some l => decide (t ≤ l)
       | _, _ => false

/-- R23: the conditions under which a waiting stand's forced mark is set. -/
def State.mustForce (s : State) (n : StandNo) : Bool :=
  !(s.stand n).forced && !s.holdsLock n && !s.hasEntry n
    && match (s.stand n).expiring.bind (·.estimate) with
       | some e => decide (e.length ≤ forcedMargin (s.stand n).table)
       | none => false

/-- R23: the forced mark set, with SPLICE_FORCED, where its conditions hold. -/
def markForced (n : StandNo) (s : State) : State :=
  if s.mustForce n then (s.onStand n fun st => { st with forced := true }).standEvent .spliceForced n else s

/-- R24: a waiting stand starts forced. -/
def State.startsForced (s : State) (n : StandNo) : Bool :=
  (s.stand n).forced && !s.hasEntry n && (s.stand n).fastEnough

/-- R24: the forced start, where its conditions hold. -/
def tryForced (n : StandNo) (s : State) : State := if s.startsForced n then startForced n s else s

/-! ### ACCELERATING -/

/-- R70: stage E at a sample: n_ref replaces the previous one at once. -/
def referTo (n : StandNo) (v : StandSample) (s : State) : State :=
  s.onStand n fun st => { st with rotationRef := st.reference v.webSpeed }

/-- A change of the paste schedule, where there is one. -/
def Stand.onSchedule (f : PasteSchedule → PasteSchedule) (st : Stand) : Stand :=
  { st with schedule := st.schedule.map f }

/-- R27: the speed abort: the lock given back, the new reel stopped, READY, SPEED_ABORT. -/
def abortForSpeed (n : StandNo) (s : State) : State :=
  let g := s.groupOf n
  let t := (stopNewReel n (giveBackLock n s)).onStand n fun st => { st with forced := false, state := .ready }
  settleReleased g (settleStand n (t.standEvent .speedAbort n))

/-- R72: the match test. -/
def testMatch (n : StandNo) (v : StandSample) (s : State) : State :=
  s.onStand n fun st =>
    st.onSchedule fun p =>
      { p with
        matchCount := if matched v.rate st.rotationRef (speedTolerance st.table) then min 16 (p.matchCount + 1) else 0 }

/-- R73, R74: the mark is learned, that is, the new-reel record holds a mark angle. -/
def Stand.markLearned (st : Stand) : Bool := (st.newReel.bind (·.mark)).isSome

/-- R74: a latch judged while the mark is not learned: the mark angle, the last mark angle and the mark count. -/
def Stand.judgeLatch (st : Stand) (angle : BitVec 12) : Stand :=
  match st.schedule with
  | some p =>
    let agrees :=
      match p.lastMark with
      | some a => decide (circularDistance angle a ≤ markTolerance st.table)
      | none => false
    if agrees then
      { st with
        newReel := st.newReel.map fun r => { r with mark := some angle }
        schedule := some { p with markCount := p.markCount + 1 } }
    else { st with schedule := some { p with lastMark := some angle, markCount := p.markCount + 1 } }
  | none => st

/-- R73: mark learning at a sample: on an increase of the mark count the reference moves, and the latch is judged where the
mark is not learned. -/
def Stand.learnMark (st : Stand) (v : StandSample) : Stand :=
  match st.schedule with
  | some p =>
    if v.markCount = p.markReference then st
    else
      let t := { st with schedule := some { p with markReference := v.markCount } }
      if st.markLearned then t else t.judgeLatch v.markAngle
  | none => st

/-- R74: the mark limit is reached without the mark learned, at a latch of this sample. -/
def Stand.markFails (before after : Stand) : Bool :=
  !before.markLearned && !after.markLearned
    && match before.schedule, after.schedule with
       | some p, some q => decide (p.markReference ≠ q.markReference) && decide (markLimit after.table ≤ q.markCount)
       | _, _ => false

/-- R75: the match count has reached entry 14 and the mark is learned. -/
def Stand.readyToAdvance (st : Stand) : Bool :=
  st.markLearned
    && match st.schedule with
       | some p => decide (matchCountEntry st.table ≤ p.matchCount)
       | none => false

/-- R75: entry to PASTING.ADVANCE. -/
def enterAdvance (n : StandNo) (s : State) : State :=
  s.onStand n fun st =>
    { st.onSchedule fun p => { p with advanceDeadline := some (addMs s.now (setupTime st.table)) } with
      state := .pasting .advance, arm := .advance }

/-- R26 step 4: n_ref, the match test, mark learning, MARK_FAIL, and the move to PASTING.ADVANCE. -/
def accelerate (n : StandNo) (v : StandSample) (s : State) : State :=
  let t := testMatch n v (referTo n v s)
  let u := t.onStand n fun st => st.learnMark v
  if (t.stand n).markFails (u.stand n) then enterFault n .markFail u
  else if (u.stand n).readyToAdvance then enterAdvance n u
  else u

/-- R26: the sample of a stand in ACCELERATING, after tracking. -/
def acceleratingSample (n : StandNo) (v : StandSample) (s : State) : State :=
  if !v.web then enterFault n .webLost s
  else if !v.ready then enterFault n .driveFail s
  else if v.webSpeed < minimumSpeed (s.stand n).table then abortForSpeed n s
  else accelerate n v s

/-! ### PASTING -/

/-- R81: entry to PASTING.BRUSH with the times of stage F. -/
def enterBrush (n : StandNo) (v : StandSample) (contact brush : BitVec 32) (s : State) : State :=
  s.onStand n fun st =>
    { st.onSchedule fun p =>
        { p with
          contactTime := some contact
          brushTime := some brush
          confirmDeadline := some (contact + BitVec.ofNat 32 (confirmWindow st.table * revolutionTime v.rate))
          confirmReference := some v.confirmCount } with
      state := .pasting .brush, brushAt := some brush }

/-- R76: the sample of a stand in PASTING.ADVANCE, after tracking and stage E. -/
def advanceSample (n : StandNo) (v : StandSample) (s : State) : State :=
  if !v.web then enterFault n .webLost s
  else if v.arm = .pastePosition ∧ 1000 ≤ v.rate then
    match (s.stand n).newReel.bind (·.mark) with
    | some mark =>
      let t := (s.stand n).table
      let p := pasteInstant mark (pasteOffset t) (brushAngle t) (brushLatency t) v s.floor
      enterBrush n v p.1 p.2 s
    | none => s
  else s

/-- R86: entry to PASTING.CUT with the knife time; the increase that led here has become the confirm count's reference (R69). -/
def enterCut (n : StandNo) (v : StandSample) (knife : BitVec 32) (s : State) : State :=
  s.onStand n fun st =>
    { st.onSchedule fun p =>
        { p with
          confirmReference := some v.confirmCount, knifeTime := some knife, knifeReference := some v.knifeCount } with
      state := .pasting .cut, forced := false, brushAt := none, knifeAt := some knife }

/-- R82: the confirmation: the tracker entry with its contact length (stage H), the lock's hand-over, the forced mark cleared,
the knife time (stage G) and the entry to CUT. -/
def confirmPaste (n : StandNo) (v : StandSample) (contact : BitVec 32) (s : State) : State :=
  let t := appendEntry n contact (contactLength v.length v.webSpeed contact v.time) s
  enterCut n v (knifeInstant contact (knifeLength (s.stand n).table) v.webSpeed s.floor) t

/-- R69: an increase of a count against the schedule's reference. -/
def increased (count : BitVec 8) (reference : Option (BitVec 8)) : Bool :=
  match reference with
  | some r => decide (count ≠ r)
  | none => false

/-- R82: the sample of a stand in PASTING.BRUSH, after tracking and stage E. -/
def brushSample (n : StandNo) (v : StandSample) (s : State) : State :=
  if !v.web then enterFault n .webLost s
  else
    match (s.stand n).schedule with
    | some p =>
      match p.contactTime with
      | some contact => if increased v.confirmCount p.confirmReference then confirmPaste n v contact s else s
      | none => s
    | none => s

/-- R36: the expiring-reel record built from the new-reel record and the sample that reports the knife. -/
def splicedReel (r : NewReel) (v : StandSample) : ExpiringReel :=
  { ident := r.ident, caliper := r.caliper, origin := .spliced, estimate := none, lastRevolution := v.revolutions,
    lastLatched := v.latched, lowReported := false }

/-- R87: splice completion. -/
def completeSplice (n : StandNo) (v : StandSample) (s : State) : State :=
  let t := s.onStand n fun st =>
    { st with
      expiring := st.newReel.map fun r => splicedReel r v
      newReel := none, rotation := .hold, rotationRef := 0, arm := .retract, brushAt := none, knifeAt := none,
      schedule := none, state := .running }
  settleStand n ((t.standEvent .spliceDone n).raiseFlag n .spliceDone)

/-- R87: the sample of a stand in PASTING.CUT, after tracking and stage E. -/
def cutSample (n : StandNo) (v : StandSample) (s : State) : State :=
  if !v.web then enterFault n .webLost s
  else
    match (s.stand n).schedule with
    | some p => if increased v.knifeCount p.knifeReference then completeSplice n v s else s
    | none => s

/-! ### The sample, the deadlines and ring loss -/

/-- R8 step 1: an accepted sample of a stand: tracking first, then the transitions of its present state. -/
def handleSample (n : StandNo) (v : StandSample) (s : State) : State :=
  match (s.stand n).state with
  | .offline => s
  | .parked => s
  | .fault => s
  | .running => watch n v (trackStand n v s)
  | .loaded => watch n v (trackStand n v s)
  | .ranging => watch n v (trackStand n v s)
  | .ready =>
    let t := trackStand n v s
    if !v.web then loseWeb n t else if t.triggers n then enterWaiting n false t else t
  | .waiting =>
    let t := trackStand n v s
    if !v.web then loseWeb n t else tryForced n (markForced n t)
  | .accelerating => acceleratingSample n v (trackStand n v s)
  | .pasting .advance => advanceSample n v (referTo n v (trackStand n v s))
  | .pasting .brush => brushSample n v (referTo n v (trackStand n v s))
  | .pasting .cut => cutSample n v (referTo n v (trackStand n v s))
where
  /-- R39, R28: a stand without a usable new reel: REEL_LOW, then web loss (DEDUCED, log entry 11). -/
  watch (n : StandNo) (v : StandSample) (t : State) : State :=
    let u := reportReelLow n t
    if !v.web then loseWeb n u else u

/-- R8 step 1: the stand's sample work, where its field was accepted at this frame. -/
def sampleWork (n : StandNo) (s : State) : State :=
  match (s.stand n).monitor.held with
  | some v => handleSample n v s
  | none => s

/-- A deadline, where present, is reached at now. -/
def State.past (s : State) (d : Option (BitVec 32)) : Bool :=
  match d with
  | some t => reached s.now t
  | none => false

/-- R83: the fault code of a confirm deadline reached: by the STALE condition of the stand's field. -/
def confirmFault (st : Stand) : FaultCode := if st.monitor.stale then .pasteUnknown else .pasteMiss

/-- R8 step 3: the deadline of the state and phase that the stand is in (R26, R77, R83, R88). -/
def deadlineWork (n : StandNo) (s : State) : State :=
  match (s.stand n).state, (s.stand n).schedule with
  | .accelerating, some p => if s.past (some p.matchDeadline) then enterFault n .matchFail s else s
  | .pasting .advance, some p => if s.past p.advanceDeadline then enterFault n .setupFail s else s
  | .pasting .brush, some p =>
    if s.past p.confirmDeadline then enterFault n (confirmFault (s.stand n)) s else s
  | .pasting .cut, some p =>
    if s.past (p.knifeTime.map fun t => addMs t (knifeTimeoutEntry (s.stand n).table)) then enterFault n .knifeFail s
    else s
  | _, _ => s

/-- R31: ring loss at a stand. -/
def standRingLoss (n : StandNo) (s : State) : State :=
  match (s.stand n).state with
  | .waiting => settleStand n ((withdrawWait n s).onStand n fun st => { st with state := .ready })
  | .accelerating => enterFault n .ringLost s
  | .pasting .advance => enterFault n .ringLost s
  | .pasting .brush => enterFault n .pasteUnknown s
  | .pasting .cut => enterFault n .knifeFail s
  | _ => s

end Sys2Proof.Machine
end

