-- ==== Sys2Proof/Machine/Samples.lean ====
section
/-!
DEFINITION. The Sample Monitor (R160 to R162): the judgement of an input field at an accepted frame, and the STALE test.
-/

namespace Sys2Proof.Machine

/-- R161: a field is accepted where its freshness history is none or differs from the counter. -/
def Monitor.accepts {α : Type} (m : Monitor α) (counter : BitVec 4) : Bool := m.history != some counter

/-- R161: the items of a field after a sample is accepted. -/
def Monitor.accept {α : Type} (m : Monitor α) (counter : BitVec 4) (v : α) : Monitor α :=
  { m with history := some counter, held := some v, staleCount := 0, stale := false }

/-- R161: the items of a field after a repeat, before the STALE test. -/
def Monitor.repeated {α : Type} (m : Monitor α) : Monitor α := { m with staleCount := min 255 (m.staleCount + 1) }

/-- R162: the STALE condition becomes set. -/
def Monitor.becomesStale {α : Type} (m : Monitor α) (limit : Nat) : Bool := decide (limit < m.staleCount) && !m.stale

/-- The freshness history of a field. -/
def State.historyAccepts (s : State) (f : InputField) (counter : BitVec 4) : Bool :=
  match f with
  | .stand n => (s.stand n).monitor.accepts counter
  | .gauge g => (s.gauge g).monitor.accepts counter
  | .folder g => (s.group g).monitor.accepts counter

/-- The STALE condition of a field. -/
def State.isStale (s : State) (f : InputField) : Bool :=
  match f with
  | .stand n => (s.stand n).monitor.stale
  | .gauge g => (s.gauge g).monitor.stale
  | .folder g => (s.group g).monitor.stale

/-- R162: a field's stale limit; a stand's is entry 4 as applied when the frame was accepted (R43: a load applied within a frame's
work counts from the next cycle frame). -/
def State.limitOf (s : State) (f : InputField) : Nat :=
  match f with
  | .stand n => s.frame.limits[n.val]
  | .gauge _ => Config.fixedStaleLimit
  | .folder _ => Config.fixedStaleLimit

/-- R162: the STALE test of a field. -/
def State.testsStale (s : State) (f : InputField) : Bool :=
  match f with
  | .stand n => (s.stand n).monitor.becomesStale (s.limitOf f)
  | .gauge g => (s.gauge g).monitor.becomesStale (s.limitOf f)
  | .folder g => (s.group g).monitor.becomesStale (s.limitOf f)

/-- R161: the values of an accepted field become the held values, with the readings of R158. -/
def acceptField (f : InputField) (ws : List Word) (s : State) : State :=
  match f with
  | .stand n =>
    s.onStand n fun st =>
      { st with monitor := st.monitor.accept (freshnessOf ws) (readStandSample ws s.now s.period) }
  | .gauge g =>
    s.onGauge g fun u => { u with monitor := u.monitor.accept (freshnessOf ws) (readGaugeSample ws) }
  | .folder g =>
    s.onGroup g fun u => { u with monitor := u.monitor.accept (freshnessOf ws) (readFolderSample ws) }

/-- R161: a repeat of a field. -/
def repeatField (f : InputField) (s : State) : State :=
  match f with
  | .stand n => s.onStand n fun st => { st with monitor := st.monitor.repeated }
  | .gauge g => s.onGauge g fun u => { u with monitor := u.monitor.repeated }
  | .folder g => s.onGroup g fun u => { u with monitor := u.monitor.repeated }

/-- R161, R162: SAMPLES_FRESH and SAMPLES_STALE name the stand, the gauge or the group of the field. -/
def fieldEvent (kind : EventKind) (f : InputField) (s : State) : State :=
  match f with
  | .stand n => s.takeEvent kind (some n) none none
  | .gauge g => s.takeEvent kind none (some (.gauge g)) none
  | .folder g => s.takeEvent kind none (some (.group g)) none

/-- R161: a field that lies within the frame with a new counter is accepted; SAMPLES_FRESH where it was STALE. -/
def takeField (f : InputField) (ws : List Word) (s : State) : State :=
  let t := acceptField f ws (if s.isStale f then fieldEvent .samplesFresh f s else s)
  t.onFrame fun w => { w with fresh := w.fresh ++ [f] }

/-- R161: the judgement of a field of the map, by what the frame brought for it. -/
def judgeField (f : InputField) (brought : Option (List Word)) (s : State) : State :=
  match brought with
  | some ws => if s.historyAccepts f (freshnessOf ws) then takeField f ws s else repeatField f s
  | none => repeatField f s

/-- What the frame brought for a field of the map that is not yet judged (R147 step 8). -/
def State.broughtFor (s : State) (f : InputField) : Option (Option (List Word)) :=
  (s.frame.handed.find? (·.1 == f)).map (·.2)

/-- R153: what a move leaves of a field's monitor, for a field that was in the map. -/
def forgetField (f : InputField) (s : State) : State :=
  match f with
  | .stand n => s.onStand n fun st => { st with monitor := movedMonitor true true st.monitor }
  | .gauge g => s.onGauge g fun u => { u with monitor := movedMonitor true true u.monitor }
  | .folder g => s.onGroup g fun u => { u with monitor := movedFolderMonitor true true u.monitor }

/-- The judgement of a field at this frame, once; a field that a load has moved before it is then read afresh from the next
accepted frame on (R153). -/
def judgeWork (f : InputField) (s : State) : State :=
  match s.broughtFor f with
  | some b =>
    let t := judgeField f b (s.onFrame fun w => { w with handed := w.handed.filter (·.1 != f) })
    if s.frame.moved.contains f then forgetField f t else t
  | none => s

/-- R162: the STALE condition set. -/
def setStale (f : InputField) (s : State) : State :=
  match f with
  | .stand n => s.onStand n fun st => { st with monitor := { st.monitor with stale := true } }
  | .gauge g => s.onGauge g fun u => { u with monitor := { u.monitor with stale := true } }
  | .folder g => s.onGroup g fun u => { u with monitor := { u.monitor with stale := true } }

/-- R162, R177: a field becomes STALE: the condition, the event, and a stand's attention flag. -/
def becomeStale (f : InputField) (s : State) : State :=
  let t := fieldEvent .samplesStale f (setStale f s)
  match f with
  | .stand n => t.raiseFlag n .stale
  | .gauge _ => t
  | .folder _ => t

/-- R162: the STALE test that follows a repeat at this frame. -/
def staleWork (f : InputField) (s : State) : State :=
  if !s.frame.fresh.contains f && s.testsStale f then becomeStale f s else s

end Sys2Proof.Machine
end

