-- ==== Sys2Proof/Machine/FrameWork.lean ====
section
/-!
DEFINITION. The work that an accepted cycle frame gives the blocks (R164), piece by piece: what each piece does, which pieces
of the same block go before it, and how a list of pieces is carried out.
-/

namespace Sys2Proof.Machine

/-- The field was accepted at this frame (R161). -/
def State.accepted (s : State) (f : InputField) : Bool := s.frame.fresh.contains f

/-- R164: what one piece of work does. A piece that needs an accepted sample does nothing without one (R8, R116, R130). -/
def perform (w : Work) (s : State) : State :=
  match w with
  | .judge f => judgeWork f s
  | .stale f => staleWork f s
  | .recover n => if s.frame.recovery then recoverWork n s else s
  | .holds n => if s.accepted (.stand n) then holdsWork n s else s
  | .reject n => if s.accepted (.stand n) then rejectWork n s else s
  | .clear n => if s.accepted (.stand n) then clearWork n s else s
  | .sample n => if s.accepted (.stand n) then sampleWork n s else s
  | .deadline n => deadlineWork n s
  | .result g => if s.accepted (.gauge g) then gaugeResultWork g s else s
  | .start g => if s.accepted (.gauge g) then gaugeStartWork g s else s
  | .timeout g => gaugeDeadlineWork g s
  | .grant g => considerGrant g s

/-- R8, R116, R130, R161, R164: the pieces of the same block, and the judgement of its own field, that go before a piece. -/
def prerequisites : Work → List Work
  | .judge _ => []
  | .stale f => [.judge f]
  | .recover n => [.judge (.stand n)]
  | .holds n => [.judge (.stand n), .recover n]
  | .reject n => [.judge (.stand n), .recover n, .holds n]
  | .clear n => [.judge (.stand n), .recover n, .holds n, .reject n]
  | .sample n => [.judge (.stand n), .stale (.stand n)]
  | .deadline n => [.judge (.stand n), .stale (.stand n), .sample n]
  | .result g => [.judge (.gauge g), .stale (.gauge g)]
  | .start g => [.judge (.gauge g), .stale (.gauge g), .result g]
  | .timeout g => [.judge (.gauge g), .stale (.gauge g), .result g, .start g]
  | .grant _ => []

/-- One piece of work carried out, if it is still due; each piece is taken once. -/
def takePiece (s : State) (w : Work) : State := if s.frame.due.contains w then perform w (s.dropDue w) else s

/-- A piece of work carried out after the pieces that go before it. -/
def carryOut (s : State) (w : Work) : State := takePiece ((prerequisites w).foldl takePiece s) w

/-- A list of pieces carried out in its order. -/
def carryOutAll (ws : List Work) (s : State) : State := ws.foldl carryOut s

/-- All the work that is still due, carried out. -/
def finishFrame (s : State) : State := carryOutAll s.frame.due s

/-- A row of the table that names what comes about within a piece of the frame's work (DESIGN CHOICE, log entry 2): the piece is carried
out, after those that go before it, where the row's event comes about in it; else nothing happens. -/
def comesAbout (w : Work) (came : State → State → Bool) (s : State) : State :=
  if !s.resetLow && s.frame.due.contains w then
    let before := (prerequisites w).foldl takePiece s
    let after := takePiece before w
    if came before after then after else s
  else s

end Sys2Proof.Machine
end

