-- ==== Sys2Proof/Machine/RingPort.lean ====
section
/-!
DEFINITION. The Ring Port Unit (chapter 8): forwarding, acceptance of a cycle frame with its eight steps (R147), the output
fields (R154), the refused frame (R148), ring loss and return (R166, R167); and the meanings of the commands that frames and
time bring to it.
-/

namespace Sys2Proof.Machine

/-- R146: a frame leaves at OUT. -/
def emit (f : Frame) (s : State) : State := { s with out := some f }

/-! ### Acceptance (R147, R148) -/

/-- R147: a cycle frame is accepted. -/
def State.accepts (s : State) (f : Frame) : Bool :=
  decide (250 ≤ framePeriod f ∧ framePeriod f ≤ 4000)
    && match s.port.last with
       | some h => later (frameTime f) h.time
       | none => true

/-- R147 steps 1 to 3: the header taken, the effective command lead computed afresh (R155), the ring-loss timer restarted
(R165). -/
def takeHeader (f : Frame) (s : State) : State :=
  let t := s.onPort fun p => { p with last := some ⟨frameTime f, frameCycle f, framePeriod f⟩ }
  t.onPort fun p =>
    { p with effectiveLead := t.leadNow, timer := some (ringLossCount t.responder.table * framePeriod f) }

/-- R147 step 4, R167: the return of the ring. -/
def returnRing (s : State) : State :=
  if s.port.ring = .lost then
    ((s.onPort fun p => { p with ring := .up }).takeEvent .ringBack none none none).raiseRing
  else s

/-- R147 step 6, R156: the short-frame test. -/
def testShort (count : Nat) (s : State) : State :=
  if s.allWithin count then s.onPort fun p => { p with shortFrame := false }
  else if s.port.shortFrame then s
  else (s.onPort fun p => { p with shortFrame := true }).takeEvent .fieldRange none none none

/-! ### The outputs (R154, R156) -/

/-- R154, R173: the status record written where the status field, at the base in force, lies within the frame. -/
def State.writeStatus (s : State) (slots : List Word) : List Word :=
  if s.port.statusBase + 20 ≤ slots.length then writeSlots slots s.port.statusBase s.statusRecord else slots

/-- R132: the window that a hold slot carries: the largest prepared for it, or 0. -/
def State.windowFor (s : State) (slot : Nat) : Nat :=
  ((s.windows.filter (·.1 == slot)).map (·.2)).foldl max 0

/-- R154: what an output field carries, with its owner's counter advanced. -/
def State.content (s : State) (frameTime : BitVec 32) : OutputField → List Word
  | .status => s.statusRecord
  | .stand n => standCommand (s.stand n) frameTime s.port.effectiveLead
  | .gauge g => gaugeCommand (s.gauge g)
  | .folder g => folderCommand (s.group g)
  | .hold slot => [place (s.windowFor slot) 0]

/-- R92, R115, R134: the owner's command freshness counter advances for a frame into which its field is written. -/
def advanceCounter (o : OutputField) (s : State) : State :=
  match o with
  | .stand n => s.onStand n fun st => { st with freshness := st.freshness + 1 }
  | .gauge g => s.onGauge g fun u => { u with freshness := u.freshness + 1 }
  | .folder g => s.onGroup g fun u => { u with freshness := u.freshness + 1 }
  | .status => s
  | .hold _ => s

/-- R154, R156: the command fields and hold slots that lie within a frame of `count` slots. -/
def State.writtenFields (s : State) (count : Nat) : List (Placed OutputField) :=
  s.commandFields.filter (·.within count)

/-- R147 step 7: the counters of the fields that are written advance, and the status field takes its applied base (R173). -/
def advanceOutputs (count : Nat) (s : State) : State :=
  let t := s.onPort fun p => { p with statusBase := statusBaseEntry s.responder.table }
  (t.writtenFields count).foldl (fun u p => advanceCounter p.field u) t

/-- R147 step 7: the slots of the frame with the status record and every written field. -/
def State.writeOutputs (s : State) (frameTime : BitVec 32) (slots : List Word) : List Word :=
  (s.writtenFields slots.length).foldl (fun ws p => writeSlots ws p.base (s.content frameTime p.field))
    (s.writeStatus slots)

/-! ### The inputs and the work of the frame (R147 step 8, R164) -/

/-- R147 step 8, R156: each input field of the map with its slots as the frame brought them. -/
def State.handed (s : State) (slots : List Word) : List (InputField × Option (List Word)) :=
  s.inputFields.map fun p =>
    (p.field, if p.within slots.length then some ((slots.drop p.base).take p.len) else none)

/-- R164, R130, R8, R116, R97: the work of an accepted frame: every field of the map, every stand that has a tracker entry,
every stand, every gauge whose table is loaded and every group. -/
def State.frameDue (s : State) : List Work :=
  s.inputFields.flatMap (fun p => [.judge p.field, .stale p.field])
    ++ ((List.finRange 8).filter s.hasEntry).flatMap (fun n => [.recover n, .holds n, .reject n, .clear n])
    ++ (List.finRange 8).flatMap (fun n => [.sample n, .deadline n])
    ++ ((List.finRange 4).filter fun g => (s.gauge g).loaded).flatMap (fun g => [.result g, .start g, .timeout g])
    ++ (List.finRange 4).map .grant

/-- R147 steps 1 to 8 for an accepted frame; `brings` says whether it brings the ring back. The windows carried are prepared no
longer (R132), and each group may prepare a new reject order (R134). -/
def acceptFrame (f : Frame) (s : State) : State :=
  let returned := s.port.ring == .lost
  let t := testShort (slotCount f) ((returnRing (takeHeader f s)).onPort fun p => { p with timeBack := false })
  let t := advanceOutputs (slotCount f) t
  let out := { f with slots := t.writeOutputs (frameTime f) f.slots }
  let t := (List.finRange 4).foldl (fun u g => u.onGroup g fun x => { x with orderPrepared := false }) t
  { t with
    windows := []
    out := some out
    frame :=
      { handed := t.handed f.slots, fresh := [], moved := [], recovery := returned
        limits := Vector.ofFn fun n => staleLimit (t.stand n).table, grantFirst := [], due := t.frameDue } }

/-- R148: a cycle frame that is not accepted: the status field written as held since the last event (DEDUCED, log entry 10), and
TIME_BACK once a run. -/
def refuseFrame (f : Frame) (s : State) : State :=
  let t := emit { f with slots := s.writeStatus f.slots } s
  if s.port.timeBack then t
  else (t.onPort fun p => { p with timeBack := true }).takeEvent .timeBack none none none

/-- A judgement of a field; it is never left for later commands (DESIGN CHOICE, log entry 2). -/
def isJudge : Work → Bool
  | .judge _ => true
  | _ => false

/-- The order in which a plan takes the work that is due (DESIGN CHOICE, log entry 1). -/
def planOrder (p : Plan) (due : List Work) : List Work :=
  p.first ++ due.filter fun w => isJudge w || !p.later.contains w

/-! ### Ring loss (R165, R166) -/

/-- R166: an owner acts on ring loss. -/
def loseAt (s : State) (o : LossOwner) : State :=
  match o with
  | .stand n => standRingLoss n s
  | .gauge g => gaugeRingLoss g s

/-- R166: the owners that act on ring loss. -/
def lossOwners : List LossOwner := (List.finRange 8).map .stand ++ (List.finRange 4).map .gauge

/-- R166: the order in which the owners act: those named first, then the rest, each once (DESIGN CHOICE, log entry 9). -/
def lossOrder (order : List LossOwner) : List LossOwner :=
  order.eraseDups ++ lossOwners.filter fun o => !order.contains o

/-- R166: ring loss is declared. -/
def declareLoss (order : List LossOwner) (s : State) : State :=
  (lossOrder order).foldl loseAt
    ((s.onPort fun p => { p with ring := .lost }).takeEvent .ringLost none none none)

/-! ### Meanings -/

/-- CYCLE_FRAME (R147, R148, R164): what is left of the last frame's work is taken first; then the frame is accepted with its
work in the plan's order, or refused. While RESET is low it passes unchanged (R192). -/
def execCycleFrame (f : Frame) (plan : Plan) (s : State) : Host.Outcome State Fault Refusal :=
  .next <|
    if s.resetLow then emit f s
    else
      let s := finishFrame s
      if s.accepts f then
        let t := (acceptFrame f s).onFrame fun w => { w with grantFirst := plan.grantFirst }
        carryOutAll (planOrder plan t.frame.due) t
      else refuseFrame f s

/-- FOREIGN_FRAME (R146): the frame leaves at OUT with nothing written. -/
def execForeignFrame (f : Frame) (s : State) : Host.Outcome State Fault Refusal := .next (emit f s)

/-- RING_LOSS_TIMER_EXPIRY (R165): a running timer stops, and with the ring UP ring loss is declared; a stopped timer does not
expire. What is left of the last frame's work is taken first. While RESET is low no event is taken (R192). -/
def execRingLossTimerExpiry (order : List LossOwner) (s : State) : Host.Outcome State Fault Refusal :=
  .next <|
    if s.resetLow || s.port.timer.isNone then s
    else
      let t := (finishFrame s).onPort fun p => { p with timer := none }
      if t.port.ring = .up then declareLoss order t else t

/-- RESET_ASSERT (R192): RESET is driven low. -/
def execResetAssert (s : State) : Host.Outcome State Fault Refusal := .next { s with resetLow := true }

/-- RESET_RELEASE (R192): the power-on values, with the node address of the straps; the commands that wait go on waiting
(DEDUCED, log entry 7). -/
def execResetRelease (straps : BitVec 4) (s : State) : Host.Outcome State Fault Refusal :=
  .next { State.powerOn straps with pending := s.pending }

end Sys2Proof.Machine
end

