-- ==== Sys2Proof/Machine/Service.lean ====
section
/-!
DEFINITION. The Service Responder (chapter 9): how a request is taken or refused and its reply written (R168, R169), and the
requests it answers itself.
-/

namespace Sys2Proof.Machine

/-- R168, R191: the reply statuses. -/
inductive ReplyStatus where
  | done
  | held
  | busy
  | state
  | range
  | overlap
  | speed
  | notLoaded
  | unknown
  deriving DecidableEq, Repr

/-- R191: the codes of the reply statuses. -/
def statusNumber : ReplyStatus → Nat
  | .done => 0
  | .held => 1
  | .busy => 2
  | .state => 3
  | .range => 4
  | .overlap => 5
  | .speed => 6
  | .notLoaded => 7
  | .unknown => 8

/-- What a request comes to: its reply and the state it leaves. -/
structure Answer where
  status : ReplyStatus
  payload : List Word
  state : State

/-- R169: a refused request changes no state, and its payload is empty (DEDUCED, log entry 14). -/
def refuse (c : ReplyStatus) (s : State) : Answer := { status := c, payload := [], state := s }

/-- A request taken and carried out at once, with an empty payload. -/
def taken (s : State) : Answer := { status := .done, payload := [], state := s }

/-- R190: slot 0 of a reply carries the status in bits 0 to 7. -/
def statusSlot (c : ReplyStatus) : Word := place (statusNumber c) 0

/-- R186, R192: the RPU hands a service frame to the Service Responder: RESET is not low, the part has a node address, and the
frame is addressed to it. -/
def State.hears (s : State) (f : Frame) : Bool :=
  !s.resetLow && s.nodeAddress != 0 && destination f == s.nodeAddress

/-- R168: a service frame is taken: forwarded where it is not for the part or has no reply area; refused with RANGE where the
reply area is shorter than the reply; else the request is taken or refused by its own rule `act`. It is
taken before or after a frame's work, never within it (R164): what is left of the last frame's work is taken first. -/
def serve (f : Frame) (s : State) (act : State → Answer) : State :=
  if s.hears f && replyRoom f != 0 then
    let s := finishFrame s
    let a := act s
    if replyRoom f < 1 + a.payload.length then emit (writeReply f [statusSlot .range]) s
    else emit (writeReply f (statusSlot a.status :: a.payload)) a.state
  else emit f s

/-- R169: a request area whose length does not match its kind is refused with RANGE. -/
def withArea (f : Frame) (len : Nat) (s : State) (k : List Word → Answer) : Answer :=
  match requestArea f with
  | some ws => if ws.length = len then k ws else refuse .range s
  | none => refuse .range s

/-- A stand number of a request, where it lies within 0 to 7. -/
def standOf (n : Nat) : Option StandNo := if h : n < 8 then some ⟨n, h⟩ else none

/-- A group or gauge number of a request, where it lies within 0 to 3. -/
def groupOfNumber (n : Nat) : Option GroupNo := if h : n < 4 then some ⟨n, h⟩ else none

/-! ### READ TABLE (R171) -/

/-- The entries of a run. -/
def runOf {k : Nat} (t : Vector Word k) (first count : Nat) : List Word := (t.toList.drop first).take count

/-- R171, R190: the reply of a READ TABLE: loaded, load pending, and the applied values of the run. A count above 16 lies
outside its range (R170, R184). -/
def tableAnswer {k : Nat} (t : Vector Word k) (loaded pending : Bool) (first count : Nat) (s : State) : Answer :=
  if count ≤ 16 ∧ first + count ≤ k then
    { status := .done, payload := (placeBit loaded 0 ||| placeBit pending 1) :: runOf t first count, state := s }
  else refuse .range s

/-- R171: a table kind is judged before the instance, and the instance before the run. -/
def readTable (kind inst first count : Nat) (s : State) : Answer :=
  match kind with
  | 0 => if inst = 0 then tableAnswer s.responder.table s.responder.loaded false first count s else refuse .range s
  | 1 =>
    match standOf inst with
    | some n => tableAnswer (s.stand n).table (s.stand n).loaded (s.stand n).pendingLoad.isSome first count s
    | none => refuse .range s
  | 2 =>
    match standOf inst with
    | some n => tableAnswer (s.path n).table (s.path n).loaded (s.path n).pendingLoad.isSome first count s
    | none => refuse .range s
  | 3 =>
    match groupOfNumber inst with
    | some g => tableAnswer (s.group g).table (s.group g).loaded (s.group g).pendingLoad.isSome first count s
    | none => refuse .range s
  | 4 =>
    match groupOfNumber inst with
    | some g => tableAnswer (s.gauge g).table (s.gauge g).loaded (s.gauge g).pendingLoad.isSome first count s
    | none => refuse .range s
  | _ => refuse .unknown s

/-- READ_TABLE (R171). -/
def execReadTable (f : Frame) (s : State) : Host.Outcome State Fault Refusal :=
  .next <| serve f s fun s => withArea f 2 s fun ws =>
    let w := slotAt ws 1
    readTable (bits w 0 8) (bits w 8 4) (bits w 16 8) (runCount w) s

/-! ### READ STAND, READ TRACKER (R174, R175) -/

/-- READ_STAND (R174). -/
def execReadStand (f : Frame) (s : State) : Host.Outcome State Fault Refusal :=
  .next <| serve f s fun s => withArea f 2 s fun ws =>
    match standOf (bits (slotAt ws 1) 0 8) with
    | some n => { status := .done, payload := standRecord (s.stand n), state := s }
    | none => refuse .range s

/-- READ_TRACKER (R175). -/
def execReadTracker (f : Frame) (s : State) : Host.Outcome State Fault Refusal :=
  .next <| serve f s fun s => withArea f 2 s fun ws =>
    match groupOfNumber (bits (slotAt ws 1) 0 8) with
    | some g => { status := .done, payload := trackerRecord (s.group g), state := s }
    | none => refuse .range s

/-! ### TAKE EVENTS, CLEAR ATTENTION (R181, R178) -/

/-- R181: up to `count` records removed from the head of the queue. -/
def takeRecords (count : Nat) (s : State) : Answer :=
  let removed := s.responder.events.take count
  let rest := s.responder.events.drop count
  { status := .done
    payload := (place removed.length 0 ||| place rest.length 8 ||| placeBit s.responder.overflow 16)
      :: removed.flatMap eventSlots
    state := s.onResponder fun r => { r with events := rest } }

/-- TAKE_EVENTS (R181): a count outside 1 to 8 is refused with RANGE. -/
def execTakeEvents (f : Frame) (s : State) : Host.Outcome State Fault Refusal :=
  .next <| serve f s fun s => withArea f 2 s fun ws =>
    let count := bits (slotAt ws 1) 0 8
    if 1 ≤ count ∧ count ≤ 8 then takeRecords count s else refuse .range s

/-- R178, R190: a stand's flags after the named ones are cleared; bits 4n to 4n+3 name those of stand n. -/
def clearNamed (w : Word) (n : Nat) (f : StandFlags) : StandFlags :=
  { fault := f.fault && !bitOf w (4 * n)
    spliceDone := f.spliceDone && !bitOf w (4 * n + 1)
    rangeResult := f.rangeResult && !bitOf w (4 * n + 2)
    stale := f.stale && !bitOf w (4 * n + 3) }

/-- R178: the named flags and the overflow flag become clear. -/
def clearAttention (stands part : Word) (s : State) : State :=
  s.onResponder fun r =>
    { r with
      flags := Vector.ofFn fun i => clearNamed stands i.val r.flags[i.val]
      eventsFlag := r.eventsFlag && !bitOf part 0
      ringFlag := r.ringFlag && !bitOf part 1
      overflow := false }

/-- CLEAR_ATTENTION (R178). -/
def execClearAttention (f : Frame) (s : State) : Host.Outcome State Fault Refusal :=
  .next <| serve f s fun s => withArea f 3 s fun ws => taken (clearAttention (slotAt ws 1) (slotAt ws 2) s)

/-! ### GROUP ORDER (R104) -/

/-- R104: the hold condition of a group put to HELD or OPEN. -/
def setHold (held : Bool) (g : GroupNo) (s : State) : State := s.onGroup g fun u => { u with held := held }

/-- R104: a group order of a known kind. -/
def groupOrder (f : Frame) (held : Bool) (s : State) : Answer :=
  withArea f 2 s fun ws =>
    match groupOfNumber (bits (slotAt ws 1) 0 8) with
    | some g => taken (setHold held g s)
    | none => refuse .range s

/-- GROUP_ORDER_HOLD (R104). -/
def execGroupOrderHold (f : Frame) (s : State) : Host.Outcome State Fault Refusal :=
  .next <| serve f s (groupOrder f true)

/-- GROUP_ORDER_RELEASE (R104). -/
def execGroupOrderRelease (f : Frame) (s : State) : Host.Outcome State Fault Refusal :=
  .next <| serve f s (groupOrder f false)

/-! ### Unknown requests (R169) -/

/-- R169, R172, R9, R104: a request that names no row. An area that does not match its kind is refused with RANGE first, then a
stand or group number out of range (DEDUCED, log entry 13); then the kind itself with UNKNOWN. -/
def unknownAnswer (f : Frame) (s : State) : Answer :=
  match requestArea f, requestKind f with
  | some ws, some 2 =>
    if 2 ≤ ws.length ∧ ws.length = 2 + runCount (slotAt ws 1) then refuse .unknown s else refuse .range s
  | some ws, some 3 =>
    if ws.length = 2 ∧ bits (slotAt ws 1) 0 4 < 8 then refuse .unknown s else refuse .range s
  | some ws, some 4 =>
    if ws.length = 2 ∧ bits (slotAt ws 1) 0 8 < 4 then refuse .unknown s else refuse .range s
  | _, some _ => refuse .unknown s
  | _, none => refuse .range s

/-- UNKNOWN_REQUEST (R169). -/
def execUnknownRequest (f : Frame) (s : State) : Host.Outcome State Fault Refusal :=
  .next <| serve f s (unknownAnswer f)

end Sys2Proof.Machine
end

