-- ==== Sys2Proof/Machine/Orders.lean ====
section
/-!
DEFINITION. The stand orders (R9 to R20): one meaning an order, each taken or refused by the stand's state.
-/

namespace Sys2Proof.Machine

/-- R9, R169: a STAND ORDER of a known kind: an area of the wrong length or a stand number outside 0 to 7 is refused with RANGE;
else the order is handed to the stand. -/
def standOrder (f : Frame) (len : Nat) (act : List Word → StandNo → State → Answer) (s : State) : Answer :=
  withArea f len s fun ws =>
    match standOf (bits (slotAt ws 1) 0 4) with
    | some n => act ws n s
    | none => refuse .range s

/-! ### ENABLE and DISABLE -/

/-- R10: every table that the stand needs is loaded. -/
def State.tablesReady (s : State) (n : StandNo) : Bool :=
  (s.stand n).loaded && (s.path n).loaded && (s.group (s.groupOf n)).loaded
    && match gaugeEntry (s.stand n).table with
       | some g => (s.gauge g).loaded
       | none => true

/-- R10: the effects of ENABLE. -/
def enableStand (n : StandNo) (s : State) : State :=
  (s.onStand n fun st => { st with state := .parked, faultCode := none }).putFlags n ⟨false, false, false, false⟩

/-- R10: ENABLE by the stand's state. -/
def orderEnable (n : StandNo) (s : State) : Answer :=
  if (s.stand n).state = .offline then
    if s.tablesReady n then taken (enableStand n s) else refuse .notLoaded s
  else refuse .state s

/-- ENABLE (R10). -/
def execEnable (f : Frame) (s : State) : Host.Outcome State Fault Refusal :=
  .next <| serve f s (standOrder f 2 fun _ n s => orderEnable n s)

/-- R11: what DISABLE leaves of a stand. -/
def Stand.disabled (st : Stand) : Stand :=
  { st with
    state := .offline, urgent := false, forced := false, schedule := none, rotation := .brake, rotationRef := 0,
    arm := .retract, brushAt := none, knifeAt := none
    expiring := st.expiring.map fun r => { r with estimate := none } }

/-- R11: the effects of DISABLE outside OFFLINE and PASTING. -/
def disableStand (n : StandNo) (s : State) : State :=
  let g := s.groupOf n
  let t :=
    match (s.stand n).state with
    | .ranging => leaveGauge n s
    | .waiting => withdrawWait n s
    | .accelerating => stopNewReel n (giveBackLock n s)
    | _ => s
  settleGroup g (settleStand n (t.onStand n Stand.disabled))

/-- R11: DISABLE by the stand's state. -/
def orderDisable (n : StandNo) (s : State) : Answer :=
  match (s.stand n).state with
  | .offline => taken s
  | .pasting _ => refuse .state s
  | _ => taken (disableStand n s)

/-- DISABLE (R11). -/
def execDisable (f : Frame) (s : State) : Host.Outcome State Fault Refusal :=
  .next <| serve f s (standOrder f 2 fun _ n s => orderDisable n s)

/-! ### PARK and RESUME -/

/-- R12: the states that admit PARK, and MOUNT (R14). -/
def StandState.feedsIdle : StandState → Bool
  | .running => true
  | .loaded => true
  | .ready => true
  | _ => false

/-- R12: PARK by the stand's state. -/
def orderPark (n : StandNo) (s : State) : Answer :=
  if (s.stand n).state.feedsIdle then taken (s.onStand n fun st => { st with state := .parked }) else refuse .state s

/-- PARK (R12). -/
def execPark (f : Frame) (s : State) : Host.Outcome State Fault Refusal :=
  .next <| serve f s (standOrder f 2 fun _ n s => orderPark n s)

/-- R37: the baseline of a present expiring-reel record re-taken from the last accepted sample. -/
def Stand.retakeBaseline (st : Stand) : Stand :=
  match st.monitor.held with
  | some v =>
    { st with
      expiring := st.expiring.map fun r => { r with lastRevolution := v.revolutions, lastLatched := v.latched } }
  | none => st

/-- R35: the expiring-reel record that RESUME creates. -/
def threadedReel (caliper : Nat) (v : StandSample) : ExpiringReel :=
  { ident := none, caliper := caliper, origin := .threaded, estimate := none, lastRevolution := v.revolutions,
    lastLatched := v.latched, lowReported := false }

/-- R13, R35: what RESUME leaves of a stand: the record created or its baseline re-taken, and the settled state. -/
def Stand.resumed (st : Stand) : Stand :=
  let t :=
    match st.expiring with
    | some _ => st.retakeBaseline
    | none => { st with expiring := st.monitor.held.map (threadedReel (defaultCaliper st.table)) }
  { t with state := st.settled }

/-- R13: RESUME by the stand's state and its held web presence. -/
def orderResume (n : StandNo) (s : State) : Answer :=
  if (s.stand n).state = .parked ∧ (s.stand n).webHeld then taken (s.onStand n Stand.resumed) else refuse .state s

/-- RESUME (R13). -/
def execResume (f : Frame) (s : State) : Host.Outcome State Fault Refusal :=
  .next <| serve f s (standOrder f 2 fun _ n s => orderResume n s)

/-! ### MOUNT, UNMOUNT and RANGE -/

/-- R14: the optional values of a MOUNT. -/
structure MountValues where
  ident : Option Ident
  caliper : Option Nat
  diameter : Option Nat
  deriving DecidableEq, Repr

/-- R190: the values of a MOUNT's request area. -/
def mountValues (ws : List Word) : MountValues :=
  let w := slotAt ws 2
  { ident := if bitOf w 0 then some (readIdent (bits w 8 4) (ws.drop 5)) else none
    caliper := if bitOf w 1 then some (slotAt ws 3).toNat else none
    diameter := if bitOf w 2 then some (slotAt ws 4).toNat else none }

/-- R14, R184: an ident has 1 to 12 characters, each of code 32 to 126. -/
def identInRange (id : Ident) : Bool :=
  decide (1 ≤ id.length ∧ id.length ≤ 12) && id.all fun c => decide (32 ≤ c.toNat ∧ c.toNat ≤ 126)

/-- R14: every value given lies in its range. -/
def MountValues.inRange (m : MountValues) : Bool :=
  m.ident.all identInRange && m.caliper.all (fun c => decide (40 ≤ c ∧ c ≤ 200))
    && m.diameter.all fun d => decide (500 ≤ d ∧ d ≤ 15000)

/-- R14: the new-reel record that MOUNT creates. -/
def MountValues.reel (m : MountValues) (defaultCaliper : Nat) (now : BitVec 32) : NewReel :=
  { ident := m.ident, caliper := m.caliper.getD defaultCaliper, diameter := m.diameter.map fun d => ⟨d, .manual⟩,
    mark := none, mountTime := now }

/-- R14: the effects of MOUNT. -/
def mountReel (n : StandNo) (m : MountValues) (s : State) : State :=
  s.onStand n fun st =>
    { st with
      newReel := some (m.reel (defaultCaliper st.table) s.now)
      state := if m.diameter.isSome then .ready else .loaded }

/-- R14: MOUNT by the stand's state, then by its values, an ident length outside 1 to 12 among them (DEDUCED, log entry 15). -/
def orderMount (n : StandNo) (m : MountValues) (s : State) : Answer :=
  if (s.stand n).state.feedsIdle then
    if m.inRange then taken (mountReel n m s) else refuse .range s
  else refuse .state s

/-- MOUNT (R14). -/
def execMount (f : Frame) (s : State) : Host.Outcome State Fault Refusal :=
  .next <| serve f s (standOrder f 8 fun ws n s => orderMount n (mountValues ws) s)

/-- R15: the effects of UNMOUNT. -/
def unmountReel (n : StandNo) (s : State) : State :=
  let t :=
    match (s.stand n).state with
    | .ranging => leaveGauge n s
    | .waiting => withdrawWait n s
    | _ => s
  settleStand n (t.onStand n fun st => { st with state := .running, newReel := none })

/-- R15: the states that admit UNMOUNT. -/
def StandState.admitsUnmount : StandState → Bool
  | .loaded => true
  | .ranging => true
  | .ready => true
  | .waiting => true
  | _ => false

/-- R15: UNMOUNT by the stand's state. -/
def orderUnmount (n : StandNo) (s : State) : Answer :=
  if (s.stand n).state.admitsUnmount then taken (unmountReel n s) else refuse .state s

/-- UNMOUNT (R15). -/
def execUnmount (f : Frame) (s : State) : Host.Outcome State Fault Refusal :=
  .next <| serve f s (standOrder f 2 fun _ n s => orderUnmount n s)

/-- R16: the effects of RANGE at the stand's gauge. -/
def rangeReel (n : StandNo) (g : GaugeNo) (s : State) : State :=
  joinQueue g n (s.onStand n fun st =>
    { st with state := .ranging, newReel := st.newReel.map fun r => { r with diameter := none } })

/-- R16: RANGE by the stand's state and its gauge. -/
def orderRange (n : StandNo) (s : State) : Answer :=
  if (s.stand n).state = .loaded ∨ (s.stand n).state = .ready then
    match gaugeEntry (s.stand n).table with
    | some g => taken (rangeReel n g s)
    | none => refuse .range s
  else refuse .state s

/-- RANGE (R16). -/
def execRange (f : Frame) (s : State) : Host.Outcome State Fault Refusal :=
  .next <| serve f s (standOrder f 2 fun _ n s => orderRange n s)

/-! ### AUTO ON, AUTO OFF, SPLICE-NOW -/

/-- R17: AUTO ON or AUTO OFF by the stand's state. -/
def orderAuto (on : Bool) (n : StandNo) (s : State) : Answer :=
  if (s.stand n).state = .offline then refuse .state s else taken (s.onStand n fun st => { st with auto := on })

/-- AUTO_ON (R17). -/
def execAutoOn (f : Frame) (s : State) : Host.Outcome State Fault Refusal :=
  .next <| serve f s (standOrder f 2 fun _ n s => orderAuto true n s)

/-- AUTO_OFF (R17). -/
def execAutoOff (f : Frame) (s : State) : Host.Outcome State Fault Refusal :=
  .next <| serve f s (standOrder f 2 fun _ n s => orderAuto false n s)

/-- R18: SPLICE-NOW by the stand's state and its held web speed. -/
def orderSpliceNow (n : StandNo) (s : State) : Answer :=
  if (s.stand n).state = .ready then
    if (s.stand n).fastEnough then taken (enterWaiting n true s) else refuse .speed s
  else refuse .state s

/-- SPLICE_NOW (R18). -/
def execSpliceNow (f : Frame) (s : State) : Host.Outcome State Fault Refusal :=
  .next <| serve f s (standOrder f 2 fun _ n s => orderSpliceNow n s)

/-! ### ABORT and CLEAR-FAULT -/

/-- R19: ABORT in WAITING. -/
def abortWait (n : StandNo) (s : State) : State :=
  settleStand n ((withdrawWait n s).onStand n fun st => { st with state := .ready })

/-- R19: ABORT in ACCELERATING and in PASTING.ADVANCE; the arm order of the former is RETRACT already. -/
def abortSplice (n : StandNo) (s : State) : State :=
  let g := s.groupOf n
  let t := (stopNewReel n (giveBackLock n s)).onStand n fun st =>
    { st with forced := false, state := .ready, arm := if st.state = .pasting .advance then .retract else st.arm }
  settleGroup g (settleStand n t)

/-- R19: ABORT by the stand's state and phase. -/
def orderAbort (n : StandNo) (s : State) : Answer :=
  match (s.stand n).state with
  | .waiting => taken (abortWait n s)
  | .accelerating => taken (abortSplice n s)
  | .pasting .advance => taken (abortSplice n s)
  | .pasting .brush => refuse .state s
  | .pasting .cut => refuse .state s
  | _ => taken s

/-- ABORT (R19). -/
def execAbort (f : Frame) (s : State) : Host.Outcome State Fault Refusal :=
  .next <| serve f s (standOrder f 2 fun _ n s => orderAbort n s)

/-- R20, R37: what CLEAR-FAULT leaves of a stand: the baseline is re-taken where the settled state is not PARKED. -/
def Stand.faultCleared (st : Stand) : Stand :=
  let t := if st.settled = .parked then st else st.retakeBaseline
  { t with faultCode := none, state := st.settled }

/-- R20: CLEAR-FAULT by the stand's state. -/
def orderClearFault (n : StandNo) (s : State) : Answer :=
  if (s.stand n).state = .fault then taken (s.onStand n Stand.faultCleared) else refuse .state s

/-- CLEAR_FAULT (R20). -/
def execClearFault (f : Frame) (s : State) : Host.Outcome State Fault Refusal :=
  .next <| serve f s (standOrder f 2 fun _ n s => orderClearFault n s)

end Sys2Proof.Machine
end

