-- ==== Sys2Proof/Machine/Loads.lean ====
section
/-!
DEFINITION. The LOAD TABLE requests, one meaning a table kind (R42, R122, R140, R143, R172, R173), and the rows that apply a
load held pending (R45, R122, R141, R143).
-/

namespace Sys2Proof.Machine

/-- R190, R170: the run of a LOAD TABLE: the first entry of slot 1 and one value a slot from slot 2. -/
def loadOf (ws : List Word) : Load := { first := bits (slotAt ws 1) 16 8, values := ws.drop 2 }

/-- R169, R190: a LOAD TABLE's area holds its two slots and as many values as it names, else it is refused with RANGE; its
instance and its run are handed on. -/
def loadRequest (f : Frame) (s : State) (act : Nat → Load → Answer) : Answer :=
  match requestArea f with
  | some ws =>
    if 2 ≤ ws.length ∧ ws.length = 2 + runCount (slotAt ws 1) then act (bits (slotAt ws 1) 8 4) (loadOf ws)
    else refuse .range s
  | none => refuse .range s

/-- A load judged by its owner: refused, applied at once, or kept pending. -/
def settleLoad (refusal : Option ReplyStatus) (atOnce : Bool) (applied kept s : State) : Answer :=
  match refusal with
  | some c => refuse c s
  | none => if atOnce then taken applied else { status := .held, payload := [], state := kept }

/-! ### The part table (R173) -/

/-- R173: the tests of a part-table load. -/
def partLoadRefusal (l : Load) (s : State) : Option ReplyStatus :=
  if !l.inRange 4 partBounds then some .range
  else if !s.placeable .part [statusField (l.over s.responder.table)] then some .overlap
  else none

/-- LOAD_TABLE_PART (R173): the part table has one instance. -/
def execLoadTablePart (f : Frame) (s : State) : Host.Outcome State Fault Refusal :=
  .next <| serve f s fun s => loadRequest f s fun inst l =>
    if inst = 0 then settleLoad (partLoadRefusal l s) true (applyPartLoad l s) s s else refuse .range s

/-! ### Stand tables (R41, R42) -/

/-- R41: the group and gauge tables that the entries name are loaded. -/
def State.tablesOf (s : State) (t : StandTable) : Bool :=
  (s.group (groupEntry t)).loaded
    && match gaugeEntry t with
       | some g => (s.gauge g).loaded
       | none => true

/-- R42: the five tests of a stand-table load, in order. -/
def standLoadRefusal (n : StandNo) (l : Load) (s : State) : Option ReplyStatus :=
  let t := l.over (s.stand n).table
  if !l.inRange 28 standBounds then some .range
  else if (s.stand n).pendingLoad.isSome then some .busy
  else if spliceDiameter t ≤ coreDiameter t then some .range
  else if !s.placeable (.stand n) [standField n t] then some .overlap
  else if (s.stand n).state ≠ .offline ∧ !s.tablesOf t then some .notLoaded
  else none

/-- LOAD_TABLE_STAND (R42): held in RANGING, WAITING, ACCELERATING and PASTING. -/
def execLoadTableStand (f : Frame) (s : State) : Host.Outcome State Fault Refusal :=
  .next <| serve f s fun s => loadRequest f s fun inst l =>
    match standOf inst with
    | some n =>
      settleLoad (standLoadRefusal n l s) (!(s.stand n).state.defers) (applyStandLoad n l s)
        (s.onStand n fun st => { st with pendingLoad := some l }) s
    | none => refuse .range s

/-! ### Path tables (R140) -/

/-- R140 step 3: path lengths strictly increase, the last checkpoint in use is FOLDER and no other is. -/
def pathShape (t : PathEntries) : Bool :=
  (List.range (checkpointCount t)).all fun c =>
    (isHold t c == decide (c + 1 < checkpointCount t))
      && (c == 0 || decide (pathLength t (c - 1) < pathLength t c))

/-- R140: the four tests of a path-table load, in order. -/
def pathLoadRefusal (n : StandNo) (l : Load) (s : State) : Option ReplyStatus :=
  let t := l.over (s.path n).table
  if !l.inRange 17 pathBounds then some .range
  else if (s.path n).pendingLoad.isSome then some .busy
  else if !pathShape t then some .range
  else if !s.placeable (.path n) (holdFields t) then some .overlap
  else none

/-- LOAD_TABLE_PATH (R140): held while the stand has an entry in a tracker list. -/
def execLoadTablePath (f : Frame) (s : State) : Host.Outcome State Fault Refusal :=
  .next <| serve f s fun s => loadRequest f s fun inst l =>
    match standOf inst with
    | some n =>
      settleLoad (pathLoadRefusal n l s) (!s.hasEntry n) (applyPathLoad n l s)
        (s.onPath n fun p => { p with pendingLoad := some l }) s
    | none => refuse .range s

/-! ### Group tables (R143) -/

/-- R143: the three tests of a group-table load, in order. -/
def groupLoadRefusal (g : GroupNo) (l : Load) (s : State) : Option ReplyStatus :=
  if !l.inRange 6 groupBounds then some .range
  else if (s.group g).pendingLoad.isSome then some .busy
  else if !s.placeable (.group g) [folderField g (l.over (s.group g).table)] then some .overlap
  else none

/-- LOAD_TABLE_GROUP (R143): held while the group has a holder or tracker entries. -/
def execLoadTableGroup (f : Frame) (s : State) : Host.Outcome State Fault Refusal :=
  .next <| serve f s fun s => loadRequest f s fun inst l =>
    match groupOfNumber inst with
    | some g =>
      settleLoad (groupLoadRefusal g l s) ((s.group g).holder == .none && (s.group g).tracker.isEmpty)
        (applyGroupLoad g l s) (s.onGroup g fun u => { u with pendingLoad := some l }) s
    | none => refuse .range s

/-! ### Gauge tables (R122) -/

/-- R122: the three tests of a gauge-table load, in order. -/
def gaugeLoadRefusal (g : GaugeNo) (l : Load) (s : State) : Option ReplyStatus :=
  if !l.inRange 3 gaugeBounds then some .range
  else if (s.gauge g).pendingLoad.isSome then some .busy
  else if !s.placeable (.gauge g) [gaugeField g (l.over (s.gauge g).table)] then some .overlap
  else none

/-- LOAD_TABLE_GAUGE (R122): held in MEASURING and CANCELLING. -/
def execLoadTableGauge (f : Frame) (s : State) : Host.Outcome State Fault Refusal :=
  .next <| serve f s fun s => loadRequest f s fun inst l =>
    match groupOfNumber inst with
    | some g =>
      settleLoad (gaugeLoadRefusal g l s) ((s.gauge g).state == .idle) (applyGaugeLoad g l s)
        (s.onGauge g fun u => { u with pendingLoad := some l }) s
    | none => refuse .range s

/-! ### Loads held pending, applied (DESIGN CHOICE, log entry 3) -/

/-- STAND_TABLE_PENDING_APPLY (R45). -/
def execStandTablePendingApply (n : StandNo) (s : State) : Host.Outcome State Fault Refusal :=
  .next <| if s.resetLow then s else settleStand n s

/-- GAUGE_TABLE_PENDING_APPLY (R122). -/
def execGaugeTablePendingApply (g : GaugeNo) (s : State) : Host.Outcome State Fault Refusal :=
  .next <| if s.resetLow then s else settleGauge g s

/-- PATH_TABLE_PENDING_APPLY (R141). -/
def execPathTablePendingApply (n : StandNo) (s : State) : Host.Outcome State Fault Refusal :=
  .next <| if s.resetLow then s else settlePath n s

/-- GROUP_TABLE_PENDING_APPLY (R143). -/
def execGroupTablePendingApply (g : GroupNo) (s : State) : Host.Outcome State Fault Refusal :=
  .next <| if s.resetLow then s else settleGroup g s

end Sys2Proof.Machine
end

