-- ==== Sys2Proof/Machine/Restart.lean ====
section
/-!
DEFINITION. RESTART PART (R182): each block's part of the restart (R7, R110, R123, R144), then the Service Responder's.
-/

namespace Sys2Proof.Machine

/-- R7: what the restart leaves of a stand; BRAKE and RETRACT are prepared for a stand that was in ACCELERATING. -/
def Stand.restarted (st : Stand) : Stand :=
  { st with
    state := .offline, faultCode := none, auto := false, urgent := false, forced := false, newReel := none
    expiring := none, schedule := none, rotationRef := 0, brushAt := none, knifeAt := none
    rotation := if st.state = .accelerating then .brake else st.rotation
    arm := if st.state = .accelerating then .retract else st.arm }

/-- R7, R45: the restart of a stand, its pending load applied. -/
def restartStand (s : State) (n : StandNo) : State := releaseStandLoad n (s.onStand n Stand.restarted)

/-- The stand of a holder (R109). -/
def holderStand : Holder → Option StandNo
  | .none => none
  | .stand n => some n
  | .entry n => some n

/-- R110, R144: the restart of a group: LOCK_RELEASED where it had a holder, the lock's items and the list emptied, the pending
load applied. -/
def restartGroup (s : State) (g : GroupNo) : State :=
  let t :=
    match holderStand (s.group g).holder with
    | some n => s.takeEvent .lockReleased (some n) (some (.group g)) none
    | none => s
  releaseGroupLoad g (t.onGroup g fun u =>
    { u with holder := .none, held := false, waiting := Vector.replicate 8 false, tracker := [] })

/-- R123: the restart of a gauge: the queue emptied, the pending load applied, a measurement cancelled. -/
def restartGauge (s : State) (g : GaugeNo) : State :=
  let t := releaseGaugeLoad g (s.onGauge g fun u => { u with queue := [] })
  match (t.gauge g).state with
  | .measuring _ _ => cancelMeasure g t
  | _ => t

/-- R144: the restart of a path table: the pending load applied. -/
def restartPath (s : State) (n : StandNo) : State := releasePathLoad n s

/-- R182: the Service Responder's end of the restart: the queue, the flags and the overflow flag emptied. -/
def Responder.restarted (r : Responder) : Responder :=
  { r with
    flags := Vector.replicate 8 ⟨false, false, false, false⟩, eventsFlag := false, ringFlag := false, events := []
    overflow := false }

/-- R182: every block carries out its part of the restart, then the Service Responder. -/
def restartPart (s : State) : State :=
  let t := (List.finRange 8).foldl restartStand s
  let t := (List.finRange 4).foldl restartGauge t
  let t := (List.finRange 4).foldl restartGroup t
  let t := (List.finRange 8).foldl restartPath t
  { t with windows := [] }.onResponder Responder.restarted

/-- R182: some stand is in PASTING. -/
def State.anyPasting (s : State) : Bool := s.stands.toList.any fun st => st.state.isPasting

/-- RESTART_PART (R182). -/
def execRestartPart (f : Frame) (s : State) : Host.Outcome State Fault Refusal :=
  .next <| serve f s fun s => withArea f 1 s fun _ =>
    if s.anyPasting then refuse .state s else taken (restartPart s)

end Sys2Proof.Machine
end

