-- ==== Sys2Proof/Machine/Steps.lean ====
section
/-!
DEFINITION. The rows that name what comes about within the work of a frame (DESIGN CHOICE, log entry 2): each is the piece of work in which it
comes about, taken where it does, with nothing happening where it does not.
-/

namespace Sys2Proof.Machine

/-- The stand goes from one state to another. -/
def State.moves (n : StandNo) (source target : StandState) (before after : State) : Bool :=
  (before.stand n).state == source && (after.stand n).state == target

/-- The stand enters FAULT from a state with this code. -/
def State.faults (n : StandNo) (source : StandState) (c : FaultCode) (before after : State) : Bool :=
  State.moves n source .fault before after && (after.stand n).faultCode == some c

/-- The gauge's order before and after (R112: NONE in IDLE, MEASURE in MEASURING, CANCEL in CANCELLING). -/
def State.gaugeMoves (g : GaugeNo) (source target : Nat) (before after : State) : Bool :=
  gaugeOrder (before.gauge g).state == source && gaugeOrder (after.gauge g).state == target

/-- AUTOMATIC_TRIGGER (R21): a READY stand enters WAITING at its sample. -/
def execAutomaticTrigger (n : StandNo) (s : State) : Host.Outcome State Fault Refusal :=
  .next (comesAbout (.sample n) (State.moves n .ready .waiting) s)

/-- LOCK_GRANT (R97): the group's free lock is granted. -/
def execLockGrant (g : GroupNo) (s : State) : Host.Outcome State Fault Refusal :=
  .next (comesAbout (.grant g) (fun before _ => (before.grantee g).isSome) s)

/-- FORCED_START (R24): a waiting stand starts forced at its sample. -/
def execForcedStart (n : StandNo) (s : State) : Host.Outcome State Fault Refusal :=
  .next (comesAbout (.sample n) (State.moves n .waiting .accelerating) s)

/-- PASTING_ADVANCE_ENTRY (R75): a stand in ACCELERATING enters PASTING.ADVANCE at its sample. -/
def execPastingAdvanceEntry (n : StandNo) (s : State) : Host.Outcome State Fault Refusal :=
  .next (comesAbout (.sample n) (State.moves n .accelerating (.pasting .advance)) s)

/-- PASTE_INSTANT (R81): a stand in ADVANCE enters PASTING.BRUSH at its sample. -/
def execPasteInstant (n : StandNo) (s : State) : Host.Outcome State Fault Refusal :=
  .next (comesAbout (.sample n) (State.moves n (.pasting .advance) (.pasting .brush)) s)

/-- PASTE_CONFIRM (R82): a stand in BRUSH enters PASTING.CUT at its sample. -/
def execPasteConfirm (n : StandNo) (s : State) : Host.Outcome State Fault Refusal :=
  .next (comesAbout (.sample n) (State.moves n (.pasting .brush) (.pasting .cut)) s)

/-- SPLICE_COMPLETION (R87): a stand in CUT goes to RUNNING at its sample. -/
def execSpliceCompletion (n : StandNo) (s : State) : Host.Outcome State Fault Refusal :=
  .next (comesAbout (.sample n) (State.moves n (.pasting .cut) .running) s)

/-- MATCH_DEADLINE (R26): the match deadline is reached. -/
def execMatchDeadline (n : StandNo) (s : State) : Host.Outcome State Fault Refusal :=
  .next (comesAbout (.deadline n) (State.faults n .accelerating .matchFail) s)

/-- ADVANCE_DEADLINE (R77): the advance deadline is reached. -/
def execAdvanceDeadline (n : StandNo) (s : State) : Host.Outcome State Fault Refusal :=
  .next (comesAbout (.deadline n) (State.faults n (.pasting .advance) .setupFail) s)

/-- CONFIRM_DEADLINE (R83): the confirm deadline is reached. -/
def execConfirmDeadline (n : StandNo) (s : State) : Host.Outcome State Fault Refusal :=
  .next (comesAbout (.deadline n) (State.moves n (.pasting .brush) .fault) s)

/-- KNIFE_TIMEOUT (R88): the knife time plus the knife timeout is reached. -/
def execKnifeTimeout (n : StandNo) (s : State) : Host.Outcome State Fault Refusal :=
  .next (comesAbout (.deadline n) (State.faults n (.pasting .cut) .knifeFail) s)

/-- GAUGE_MEASURE_START (R117): an IDLE gauge starts its head stand. -/
def execGaugeMeasureStart (g : GaugeNo) (s : State) : Host.Outcome State Fault Refusal :=
  .next (comesAbout (.start g) (State.gaugeMoves g 0 1) s)

/-- GAUGE_RESULT (R118): a matching completed sequence ends the measurement. -/
def execGaugeResult (g : GaugeNo) (s : State) : Host.Outcome State Fault Refusal :=
  .next (comesAbout (.result g) (State.gaugeMoves g 1 0) s)

/-- GAUGE_MEASURE_TIMEOUT (R119): the measurement deadline is reached. -/
def execGaugeMeasureTimeout (g : GaugeNo) (s : State) : Host.Outcome State Fault Refusal :=
  .next (comesAbout (.timeout g) (State.gaugeMoves g 1 0) s)

/-- GAUGE_CANCEL_END (R120): a CANCELLING gauge sees busy = no. -/
def execGaugeCancelEnd (g : GaugeNo) (s : State) : Host.Outcome State Fault Refusal :=
  .next (comesAbout (.result g) (State.gaugeMoves g 2 0) s)

/-- GAUGE_CANCEL_TIMEOUT (R120): the cancel deadline is reached. -/
def execGaugeCancelTimeout (g : GaugeNo) (s : State) : Host.Outcome State Fault Refusal :=
  .next (comesAbout (.timeout g) (State.gaugeMoves g 2 0) s)

/-- SAMPLES_STALE (R162): a field becomes STALE. -/
def execSamplesStale (f : InputField) (s : State) : Host.Outcome State Fault Refusal :=
  .next (comesAbout (.stale f) (fun before after => !before.isStale f && after.isStale f) s)

/-- HOLD_CHECKPOINT (R131): the stand's entry reaches HOLD checkpoints, all of those passed at this sample (R130). -/
def execHoldCheckpoint (n : StandNo) (s : State) : Host.Outcome State Fault Refusal :=
  .next (comesAbout (.holds n) (fun before after => before.windows != after.windows) s)

/-- REJECT_POINT (R133): the stand's entry reaches its reject point. -/
def execRejectPoint (n : StandNo) (s : State) : Host.Outcome State Fault Refusal :=
  .next (comesAbout (.reject n)
    (fun before after => (before.entryOf n).any (fun e => !e.2.rejectIssued) && (after.entryOf n).any (·.2.rejectIssued))
    s)

/-- CLEARANCE_POINT (R136): the stand's entry reaches its clearance point and leaves its list. -/
def execClearancePoint (n : StandNo) (s : State) : Host.Outcome State Fault Refusal :=
  .next (comesAbout (.clear n) (fun before after => before.hasEntry n && !after.hasEntry n) s)

end Sys2Proof.Machine
end

