-- ==== Sys2Proof/Machine/Dispatch.lean ====
section
/-!
DEFINITION. One arm for each command: the call of its meaning.
-/

namespace Sys2Proof.Machine

def exec (i : Instr) (s : State) : Host.Outcome State Fault Refusal :=
  match i with
  | .cycleFrame f plan => Sys2Proof.Machine.execCycleFrame f plan s
  | .foreignFrame f => Sys2Proof.Machine.execForeignFrame f s
  | .ringLossTimerExpiry order => Sys2Proof.Machine.execRingLossTimerExpiry order s
  | .resetAssert => Sys2Proof.Machine.execResetAssert s
  | .resetRelease straps => Sys2Proof.Machine.execResetRelease straps s
  | .readTable f => Sys2Proof.Machine.execReadTable f s
  | .loadTablePart f => Sys2Proof.Machine.execLoadTablePart f s
  | .loadTableStand f => Sys2Proof.Machine.execLoadTableStand f s
  | .loadTablePath f => Sys2Proof.Machine.execLoadTablePath f s
  | .loadTableGroup f => Sys2Proof.Machine.execLoadTableGroup f s
  | .loadTableGauge f => Sys2Proof.Machine.execLoadTableGauge f s
  | .enable f => Sys2Proof.Machine.execEnable f s
  | .disable f => Sys2Proof.Machine.execDisable f s
  | .park f => Sys2Proof.Machine.execPark f s
  | .resume f => Sys2Proof.Machine.execResume f s
  | .mount f => Sys2Proof.Machine.execMount f s
  | .unmount f => Sys2Proof.Machine.execUnmount f s
  | .range f => Sys2Proof.Machine.execRange f s
  | .autoOn f => Sys2Proof.Machine.execAutoOn f s
  | .autoOff f => Sys2Proof.Machine.execAutoOff f s
  | .spliceNow f => Sys2Proof.Machine.execSpliceNow f s
  | .abort f => Sys2Proof.Machine.execAbort f s
  | .clearFault f => Sys2Proof.Machine.execClearFault f s
  | .groupOrderHold f => Sys2Proof.Machine.execGroupOrderHold f s
  | .groupOrderRelease f => Sys2Proof.Machine.execGroupOrderRelease f s
  | .readStand f => Sys2Proof.Machine.execReadStand f s
  | .readTracker f => Sys2Proof.Machine.execReadTracker f s
  | .takeEvents f => Sys2Proof.Machine.execTakeEvents f s
  | .clearAttention f => Sys2Proof.Machine.execClearAttention f s
  | .restartPart f => Sys2Proof.Machine.execRestartPart f s
  | .unknownRequest f => Sys2Proof.Machine.execUnknownRequest f s
  | .automaticTrigger n => Sys2Proof.Machine.execAutomaticTrigger n s
  | .lockGrant g => Sys2Proof.Machine.execLockGrant g s
  | .forcedStart n => Sys2Proof.Machine.execForcedStart n s
  | .pastingAdvanceEntry n => Sys2Proof.Machine.execPastingAdvanceEntry n s
  | .pasteInstant n => Sys2Proof.Machine.execPasteInstant n s
  | .pasteConfirm n => Sys2Proof.Machine.execPasteConfirm n s
  | .spliceCompletion n => Sys2Proof.Machine.execSpliceCompletion n s
  | .matchDeadline n => Sys2Proof.Machine.execMatchDeadline n s
  | .advanceDeadline n => Sys2Proof.Machine.execAdvanceDeadline n s
  | .confirmDeadline n => Sys2Proof.Machine.execConfirmDeadline n s
  | .knifeTimeout n => Sys2Proof.Machine.execKnifeTimeout n s
  | .gaugeMeasureStart g => Sys2Proof.Machine.execGaugeMeasureStart g s
  | .gaugeResult g => Sys2Proof.Machine.execGaugeResult g s
  | .gaugeMeasureTimeout g => Sys2Proof.Machine.execGaugeMeasureTimeout g s
  | .gaugeCancelEnd g => Sys2Proof.Machine.execGaugeCancelEnd g s
  | .gaugeCancelTimeout g => Sys2Proof.Machine.execGaugeCancelTimeout g s
  | .samplesStale f => Sys2Proof.Machine.execSamplesStale f s
  | .holdCheckpoint n => Sys2Proof.Machine.execHoldCheckpoint n s
  | .rejectPoint n => Sys2Proof.Machine.execRejectPoint n s
  | .clearancePoint n => Sys2Proof.Machine.execClearancePoint n s
  | .standTablePendingApply n => Sys2Proof.Machine.execStandTablePendingApply n s
  | .gaugeTablePendingApply g => Sys2Proof.Machine.execGaugeTablePendingApply g s
  | .pathTablePendingApply n => Sys2Proof.Machine.execPathTablePendingApply n s
  | .groupTablePendingApply g => Sys2Proof.Machine.execGroupTablePendingApply g s

end Sys2Proof.Machine
end

