-- ==== Sys2Proof/Safety.lean ====
section
/-!
DEFINITION. What the claims call a sound state: the conditions that the manual's whole-machine sentences give, part by part
(R2, R3, R29, R41, R45, R68, R71, R92, R95, R96, R103, R113, R125, R126, R141, R143, R152, R179).
-/

namespace Sys2Proof.Machine

/-! ### One stand -/

/-- R2: the new-reel record is present with a diameter. -/
def Stand.measured (st : Stand) : Bool := st.newReel.any (·.diameter.isSome)

/-- R2: the new-reel record is present without a diameter. -/
def Stand.unmeasured (st : Stand) : Bool := st.newReel.any (·.diameter.isNone)

/-- R68: the states in which a paste schedule is held. -/
def StandState.splices : StandState → Bool
  | .accelerating => true
  | .pasting _ => true
  | _ => false

/-- R95: the states in which a stand may be the holder of its group's lock. -/
def StandState.mayHold : StandState → Bool
  | .accelerating => true
  | .pasting .advance => true
  | .pasting .brush => true
  | _ => false

/-- R2: the records that each state has; the records of FAULT are those of the splice that failed. -/
abbrev Stand.recordsFit (st : Stand) : Prop :=
  (st.state = .running → st.newReel = none) ∧
  (st.state = .loaded ∨ st.state = .ranging → st.unmeasured) ∧
  (st.state = .ready ∨ st.state = .waiting ∨ st.state.splices ∨ st.state = .fault → st.measured) ∧
  (st.state.tracks ∨ st.state = .fault → st.expiring.isSome)

/-- R3, R29: the states in which each status item may be set. -/
abbrev Stand.marksFit (st : Stand) : Prop :=
  (st.urgent → st.state = .waiting) ∧
  (st.forced → st.state = .waiting ∨ st.state.mayHold) ∧
  (st.state = .fault → st.faultCode.isSome) ∧
  (st.faultCode.isSome → st.state = .fault ∨ st.state = .offline)

/-- R68, R75: the paste schedule and the learned mark in each state and phase. -/
abbrev Stand.scheduleFits (st : Stand) : Prop :=
  (st.schedule.isSome = st.state.splices) ∧
  (st.state.isPasting → st.markLearned ∧ st.schedule.any (·.advanceDeadline.isSome)) ∧
  (st.state = .pasting .brush ∨ st.state = .pasting .cut →
    st.schedule.any fun p => p.contactTime.isSome && p.brushTime.isSome && p.confirmDeadline.isSome
      && p.confirmReference.isSome) ∧
  (st.state = .pasting .cut → st.schedule.any fun p => p.knifeTime.isSome && p.knifeReference.isSome)

/-- R71, R92: the values of the stand command field in each state and phase. -/
abbrev Stand.commandFits (st : Stand) : Prop :=
  (st.rotation = .accel ↔ st.state.splices) ∧
  (st.arm = .advance ↔ st.state.isPasting) ∧
  (st.state.splices = false → st.rotationRef = 0) ∧
  st.rotationRef ≤ rotationLimit st.table ∧
  st.brushAt = (if st.state = .pasting .brush then st.schedule.bind (·.brushTime) else none) ∧
  st.knifeAt = (if st.state = .pasting .cut then st.schedule.bind (·.knifeTime) else none)

/-- R2, R3, R29, R68, R71, R92: one stand is sound. -/
abbrev State.standsSound (s : State) : Prop :=
  ∀ n, (s.stand n).recordsFit ∧ (s.stand n).marksFit ∧ (s.stand n).scheduleFits ∧ (s.stand n).commandFits

/-! ### Locks and tracker lists -/

/-- R95, R96, R103, R126: holders, waiting sets and forced marks agree with the states of the stands. -/
abbrev State.locksSound (s : State) : Prop :=
  (∀ g n, (s.group g).waiting[n.val] = true ↔ (s.stand n).state = .waiting ∧ s.groupOf n = g) ∧
  (∀ g n, (s.group g).holder = .stand n → s.groupOf n = g ∧ (s.stand n).state.mayHold) ∧
  (∀ n, (s.stand n).state.mayHold → (s.holdsLock n = !(s.stand n).forced) ∧ s.hasEntry n = false) ∧
  (∀ g n, (s.group g).holder = .entry n ↔ (s.group g).tracker.any fun e => e.stand == n && e.holdsLock)

/-- R125, R126: what an entry of group `g`'s list holds. -/
abbrev Entry.sound (p : PathEntries) (e : Entry) : Prop :=
  (e.forced → e.holdsLock = false) ∧ e.next < checkpointCount p ∧ (e.rejectIssued = e.copies.isSome) ∧
  (e.copies.all fun c => decide (1 ≤ c ∧ c ≤ 255))

/-- R125, R126: the tracker lists. -/
abbrev State.trackersSound (s : State) : Prop :=
  (∀ g, ((s.group g).tracker.map (·.stand)).Nodup ∧ (s.group g).tracker.length ≤ 8) ∧
  (∀ g h n, ((s.group g).entryOf n).isSome → ((s.group h).entryOf n).isSome → g = h) ∧
  (∀ g, ∀ e ∈ (s.group g).tracker, e.sound (s.path e.stand).table)

/-! ### Gauges -/

/-- R113, R114: a stand is in RANGING exactly when it is in its gauge's queue or is the gauge's current measurement. -/
abbrev State.gaugesSound (s : State) : Prop :=
  (∀ g, (s.gauge g).queue.Nodup) ∧
  (∀ g n, n ∈ (s.gauge g).queue ∨ (s.gauge g).measures n →
    (s.stand n).state = .ranging ∧ gaugeEntry (s.stand n).table = some g) ∧
  (∀ g n, n ∈ (s.gauge g).queue → (s.gauge g).measures n = false) ∧
  (∀ n, (s.stand n).state = .ranging →
    (gaugeEntry (s.stand n).table).any fun g => (s.gauge g).queue.contains n || (s.gauge g).measures n)

/-! ### Tables -/

/-- Every entry of an instance lies in its range. -/
abbrev entriesWithin {k : Nat} (bounds : Nat → Bounds) (t : Vector Word k) : Prop :=
  ∀ i : Fin k, withinBounds (bounds i.val) t[i.val]

/-- R40, R41, R46: a stand table and what its pending load would make of it. -/
abbrev Stand.tableSound (st : Stand) : Prop :=
  entriesWithin standBounds st.table ∧ coreDiameter st.table < spliceDiameter st.table ∧
  (st.pendingLoad.all fun l =>
    l.inRange 28 standBounds && decide (coreDiameter (l.over st.table) < spliceDiameter (l.over st.table)))

/-- R139, R140: a path table and what its pending load would make of it. -/
abbrev PathTable.sound (p : PathTable) : Prop :=
  entriesWithin pathBounds p.table ∧ pathShape p.table ∧
  (p.pendingLoad.all fun l => l.inRange 17 pathBounds && pathShape (l.over p.table))

/-- R40, R122, R139, R142, R173: every applied value lies in its range, and so does every value of a pending load. -/
abbrev State.tablesSound (s : State) : Prop :=
  (∀ n, (s.stand n).tableSound) ∧ (∀ n, (s.path n).sound) ∧
  (∀ g, entriesWithin groupBounds (s.group g).table ∧ ((s.group g).pendingLoad.all (·.inRange 6 groupBounds))) ∧
  (∀ g, entriesWithin gaugeBounds (s.gauge g).table ∧ ((s.gauge g).pendingLoad.all (·.inRange 3 gaugeBounds))) ∧
  entriesWithin partBounds s.responder.table

/-- R45, R122, R141, R143: a load is held pending only while its instance's condition holds it. -/
abbrev State.pendingSound (s : State) : Prop :=
  (∀ n, (s.stand n).pendingLoad.isSome → (s.stand n).state.defers) ∧
  (∀ n, (s.path n).pendingLoad.isSome → s.hasEntry n) ∧
  (∀ g, (s.group g).pendingLoad.isSome → (s.group g).holder ≠ .none ∨ (s.group g).tracker ≠ []) ∧
  (∀ g, (s.gauge g).pendingLoad.isSome → (s.gauge g).state ≠ .idle)

/-- R10, R41: a stand outside OFFLINE has every table it needs loaded. -/
abbrev State.loadedSound (s : State) : Prop :=
  (∀ n, (s.stand n).state ≠ .offline → s.tablesReady n) ∧
  (∀ n, (s.stand n).pendingLoad.all fun l => s.tablesOf (l.over (s.stand n).table))

/-- R152: no output field of one table instance, applied or pending, shares a slot with one of another, unless both are hold
slots. -/
abbrev State.placementSound (s : State) : Prop :=
  ∀ a ∈ allTables, ∀ b ∈ allTables, a ≠ b → ∀ x ∈ s.fieldsOf a, ∀ y ∈ s.fieldsOf b, conflict x y = false

/-! ### Requests, as the claims speak of them -/

/-- R168, R186: a service frame that the part hears, with a request area of `len` slots and a reply area, between the work of two
frames (R164; a request that arrives with work due takes that work first, FrameWorkTaken). -/
abbrev State.asked (s : State) (f : Frame) (len : Nat) : Prop :=
  s.hears f ∧ requestLength f = len ∧ len ≤ slotCount f ∧ replyRoom f ≠ 0 ∧ s.frame.due = []

/-- R9, R190: a STAND ORDER of `len` slots for stand `n`. -/
abbrev State.ordered (s : State) (f : Frame) (len : Nat) (n : StandNo) : Prop :=
  s.asked f len ∧ bits (slotAt f.slots 1) 0 4 = n.val

/-- R168: the frame leaves with this reply, all else as it stands. -/
abbrev State.answered (s : State) (f : Frame) (c : ReplyStatus) (payload : List Word) : State :=
  { s with out := some (writeReply f (statusSlot c :: payload)) }

/-- R190: the length of a well-formed request area; none where the request has no kind of its own. -/
def areaLength : Instr → Option Nat
  | .readTable _ => some 2
  | .loadTablePart f => some (2 + runCount (slotAt f.slots 1))
  | .loadTableStand f => some (2 + runCount (slotAt f.slots 1))
  | .loadTablePath f => some (2 + runCount (slotAt f.slots 1))
  | .loadTableGroup f => some (2 + runCount (slotAt f.slots 1))
  | .loadTableGauge f => some (2 + runCount (slotAt f.slots 1))
  | .enable _ => some 2
  | .disable _ => some 2
  | .park _ => some 2
  | .resume _ => some 2
  | .mount _ => some 8
  | .unmount _ => some 2
  | .range _ => some 2
  | .autoOn _ => some 2
  | .autoOff _ => some 2
  | .spliceNow _ => some 2
  | .abort _ => some 2
  | .clearFault _ => some 2
  | .groupOrderHold _ => some 2
  | .groupOrderRelease _ => some 2
  | .readStand _ => some 2
  | .readTracker _ => some 2
  | .takeEvents _ => some 2
  | .clearAttention _ => some 3
  | .restartPart _ => some 1
  | .unknownRequest _ => none
  | .cycleFrame _ _ => none
  | .foreignFrame _ => none
  | .ringLossTimerExpiry _ => none
  | .resetAssert => none
  | .resetRelease _ => none
  | .automaticTrigger _ => none
  | .lockGrant _ => none
  | .forcedStart _ => none
  | .pastingAdvanceEntry _ => none
  | .pasteInstant _ => none
  | .pasteConfirm _ => none
  | .spliceCompletion _ => none
  | .matchDeadline _ => none
  | .advanceDeadline _ => none
  | .confirmDeadline _ => none
  | .knifeTimeout _ => none
  | .gaugeMeasureStart _ => none
  | .gaugeResult _ => none
  | .gaugeMeasureTimeout _ => none
  | .gaugeCancelEnd _ => none
  | .gaugeCancelTimeout _ => none
  | .samplesStale _ => none
  | .holdCheckpoint _ => none
  | .rejectPoint _ => none
  | .clearancePoint _ => none
  | .standTablePendingApply _ => none
  | .gaugeTablePendingApply _ => none
  | .pathTablePendingApply _ => none
  | .groupTablePendingApply _ => none

/-- R9, R104, R171, R172, R174, R175, R181: the stand, group, instance or count that a request names lies in its range. -/
def numbersFit : Instr → Bool
  | .readTable f =>
    let k := bits (slotAt f.slots 1) 0 8
    let i := bits (slotAt f.slots 1) 8 4
    (k == 0 && i == 0) || ((k == 1 || k == 2) && decide (i < 8)) || ((k == 3 || k == 4) && decide (i < 4)) || decide (4 < k)
  | .loadTablePart f => bits (slotAt f.slots 1) 8 4 == 0
  | .loadTableStand f => decide (bits (slotAt f.slots 1) 8 4 < 8)
  | .loadTablePath f => decide (bits (slotAt f.slots 1) 8 4 < 8)
  | .loadTableGroup f => decide (bits (slotAt f.slots 1) 8 4 < 4)
  | .loadTableGauge f => decide (bits (slotAt f.slots 1) 8 4 < 4)
  | .enable f => decide (bits (slotAt f.slots 1) 0 4 < 8)
  | .disable f => decide (bits (slotAt f.slots 1) 0 4 < 8)
  | .park f => decide (bits (slotAt f.slots 1) 0 4 < 8)
  | .resume f => decide (bits (slotAt f.slots 1) 0 4 < 8)
  | .mount f => decide (bits (slotAt f.slots 1) 0 4 < 8)
  | .unmount f => decide (bits (slotAt f.slots 1) 0 4 < 8)
  | .range f => decide (bits (slotAt f.slots 1) 0 4 < 8)
  | .autoOn f => decide (bits (slotAt f.slots 1) 0 4 < 8)
  | .autoOff f => decide (bits (slotAt f.slots 1) 0 4 < 8)
  | .spliceNow f => decide (bits (slotAt f.slots 1) 0 4 < 8)
  | .abort f => decide (bits (slotAt f.slots 1) 0 4 < 8)
  | .clearFault f => decide (bits (slotAt f.slots 1) 0 4 < 8)
  | .groupOrderHold f => decide (bits (slotAt f.slots 1) 0 8 < 4)
  | .groupOrderRelease f => decide (bits (slotAt f.slots 1) 0 8 < 4)
  | .readStand f => decide (bits (slotAt f.slots 1) 0 8 < 8)
  | .readTracker f => decide (bits (slotAt f.slots 1) 0 8 < 4)
  | .takeEvents f => decide (1 ≤ bits (slotAt f.slots 1) 0 8 ∧ bits (slotAt f.slots 1) 0 8 ≤ 8)
  | .clearAttention _ => true
  | .restartPart _ => true
  | .unknownRequest _ => true
  | .cycleFrame _ _ => true
  | .foreignFrame _ => true
  | .ringLossTimerExpiry _ => true
  | .resetAssert => true
  | .resetRelease _ => true
  | .automaticTrigger _ => true
  | .lockGrant _ => true
  | .forcedStart _ => true
  | .pastingAdvanceEntry _ => true
  | .pasteInstant _ => true
  | .pasteConfirm _ => true
  | .spliceCompletion _ => true
  | .matchDeadline _ => true
  | .advanceDeadline _ => true
  | .confirmDeadline _ => true
  | .knifeTimeout _ => true
  | .gaugeMeasureStart _ => true
  | .gaugeResult _ => true
  | .gaugeMeasureTimeout _ => true
  | .gaugeCancelEnd _ => true
  | .gaugeCancelTimeout _ => true
  | .samplesStale _ => true
  | .holdCheckpoint _ => true
  | .rejectPoint _ => true
  | .clearancePoint _ => true
  | .standTablePendingApply _ => true
  | .gaugeTablePendingApply _ => true
  | .pathTablePendingApply _ => true
  | .groupTablePendingApply _ => true

/-- R9: the length of a stand order's area, for the twelve rows that are stand orders. -/
def orderLength : Instr → Option Nat
  | .mount _ => some 8
  | .enable _ => some 2
  | .disable _ => some 2
  | .park _ => some 2
  | .resume _ => some 2
  | .unmount _ => some 2
  | .range _ => some 2
  | .autoOn _ => some 2
  | .autoOff _ => some 2
  | .spliceNow _ => some 2
  | .abort _ => some 2
  | .clearFault _ => some 2
  | _ => none

/-- R9's table: the states in which a stand order is not refused with STATE by the state alone. -/
def admits : Instr → StandState → Bool
  | .enable _, x => decide (x ∈ ([.offline] : List StandState))
  | .disable _, x => decide (x ∉ ([.pasting .advance, .pasting .brush, .pasting .cut] : List StandState))
  | .park _, x => decide (x ∈ ([.running, .loaded, .ready] : List StandState))
  | .resume _, x => decide (x ∈ ([.parked] : List StandState))
  | .mount _, x => decide (x ∈ ([.running, .loaded, .ready] : List StandState))
  | .unmount _, x => decide (x ∈ ([.loaded, .ranging, .ready, .waiting] : List StandState))
  | .range _, x => decide (x ∈ ([.loaded, .ready] : List StandState))
  | .autoOn _, x => decide (x ∉ ([.offline] : List StandState))
  | .autoOff _, x => decide (x ∉ ([.offline] : List StandState))
  | .spliceNow _, x => decide (x ∈ ([.ready] : List StandState))
  | .abort _, x => decide (x ∉ ([.pasting .brush, .pasting .cut] : List StandState))
  | .clearFault _, x => decide (x ∈ ([.fault] : List StandState))
  | _, _ => true

/-- R164: a piece of the frame's work is due and nothing of its block goes before it. -/
abbrev State.nextIs (s : State) (w : Work) : Prop :=
  s.resetLow = false ∧ w ∈ s.frame.due ∧ ∀ p ∈ prerequisites w, p ∉ s.frame.due

/-! ### What the claims say more than once -/

/-- R153, R43, R122: a field's monitor after a load is applied, by whether the field was in the map, and its bases before and
after. -/
abbrev monitorAfterLoad {α : Type} (wasLoaded : Bool) (before after : Nat) (m : Monitor α) : Monitor α :=
  if wasLoaded = false then { history := none, held := none, staleCount := 0, stale := false }
  else if after ≠ before then { m with history := none }
  else m

/-- R153, R143: as `monitorAfterLoad` for a folder field, whose held value a move forgets. -/
abbrev folderMonitorAfterLoad (wasLoaded : Bool) (before after : Nat) (m : Monitor Nat) : Monitor Nat :=
  if wasLoaded = false then { history := none, held := none, staleCount := 0, stale := false }
  else if after ≠ before then { m with history := none, held := none }
  else m

/-- R176, R189, R111: the status record that stands at `base` of these slots shows this state. -/
abbrev State.statusShows (s : State) (slots : List Word) (base : Nat) : Prop :=
  let head := slotAt slots base
  (head.getLsbD 0 = decide (s.port.ring = .lost) ∧ head.getLsbD 1 = s.responder.overflow ∧
    head.getLsbD 2 = s.responder.eventsFlag ∧ head.getLsbD 3 = s.responder.ringFlag ∧
    bits head 8 6 = s.responder.events.length) ∧
  (∀ n : StandNo,
    let w := slotAt slots (base + 1 + n.val)
    let st := s.stand n
    let f := s.flagsOf n
    bits w 0 4 = stateCode st.state ∧ bits w 4 2 = phaseCode st.state ∧ bits w 8 4 = faultItem st.faultCode ∧
    w.getLsbD 12 = f.fault ∧ w.getLsbD 13 = f.spliceDone ∧ w.getLsbD 14 = f.rangeResult ∧ w.getLsbD 15 = f.stale ∧
    w.getLsbD 16 = st.auto ∧ w.getLsbD 17 = st.forced ∧
    bits w 20 2 =
      if (s.group (s.groupOf n)).holder = .stand n then 1 else if ∃ g, (s.group g).holder = .entry n then 2 else 0) ∧
  ∀ i, 9 ≤ i → i < 20 → slotAt slots (base + i) = 0

/-- R45, R43, R153: the stand's pending load, where it holds one, applied, then TABLE_APPLIED. A sample field that this frame's
judgement has not reached (R147 step 8) keeps its monitor until then, and its move is recorded for it. -/
abbrev State.loadReleased (s : State) (n : StandNo) : State :=
  match (s.stand n).pendingLoad with
  | none => s
  | some l =>
    let before := sampleBase (s.stand n).table
    let after := sampleBase (l.over (s.stand n).table)
    let unjudged := s.frame.handed.any (·.1 == .stand n) = true
    let written := s.onStand n fun st =>
      { st with
        table := l.over st.table, loaded := true, pendingLoad := none
        monitor := if unjudged then st.monitor else monitorAfterLoad st.loaded before after st.monitor }
    (if unjudged ∧ after ≠ before then written.onFrame fun w => { w with moved := w.moved ++ [.stand n] }
      else written).takeEvent .tableApplied (some n) none none

/-- R29, R3, R5, R71, R88, R107, R177, R45: what a stand's entry to FAULT leaves, before a pending group-table load is settled: the
fault event; the stand's fault flag where the attention mask admits it; its lock, where it holds its group's, given back with
LOCK_RELEASED; the stand's items; and last its pending load applied. Everything else stands as it was. -/
abbrev State.faulted (s : State) (n : StandNo) (c : FaultCode) : State :=
  let g := s.groupOf n
  let taken := s.takeEvent (faultEvent c) (some n) none (some (faultNumber c))
  let flagged :=
    if s.responder.table[3].getLsbD 0 then
      taken.onResponder fun r => { r with flags := r.flags.set n.val { r.flags[n.val] with fault := true } }
    else taken
  let released :=
    if (s.group g).holder = .stand n then
      (flagged.onGroup g fun u => { u with holder := .none }).takeEvent .lockReleased (some n) (some (.group g)) none
    else flagged
  (released.onStand n fun st =>
    { st with
      state := .fault, faultCode := some c, urgent := false, forced := false, schedule := none
      rotation := if c = .knifeFail then .hold else .brake
      rotationRef := 0, arm := .retract, brushAt := none, knifeAt := none }).loadReleased n

/-- R49: the stand's expiring-reel record tracked with a sample, and nothing else. -/
abbrev State.reelTracked (s : State) (n : StandNo) (v : StandSample) : State :=
  s.onStand n fun st =>
    { st with expiring := st.expiring.map fun r => trackReel r (coreDiameter st.table) (spliceDiameter st.table) v }

/-- R70: n_ref for a web speed and a diameter, by its formula, at most n_max. -/
abbrev referenceAt (t : StandTable) (d : MeasuredDiameter) (v : StandSample) : Nat :=
  min (rotationLimit t)
    ((2 * (113 * v.webSpeed * (10000 + speedTrim t).toNat) + 355 * d.value) / (2 * (355 * d.value)))

/-- R49, R70: the record tracked and n_ref computed again, as every sample in ACCELERATING and PASTING begins. -/
abbrev State.referred (s : State) (n : StandNo) (v : StandSample) (d : MeasuredDiameter) : State :=
  (s.reelTracked n v).onStand n fun st => { st with rotationRef := referenceAt st.table d v }

/-! ### The whole machine -/

/-- R179: the event queue holds at most 32 records. -/
abbrev State.eventsSound (s : State) : Prop := s.responder.events.length ≤ Config.eventCapacity

/-- R133, R187: the folder's remaining copies as held are at most 255. -/
abbrev State.foldersSound (s : State) : Prop := ∀ g, (s.group g).monitor.held.all fun c => decide (c ≤ 255)

/-- The conditions that every step keeps together. -/
structure State.Sound (s : State) : Prop where
  stands : s.standsSound
  locks : s.locksSound
  trackers : s.trackersSound
  gauges : s.gaugesSound
  tables : s.tablesSound
  pending : s.pendingSound
  loaded : s.loadedSound
  folders : s.foldersSound

end Sys2Proof.Machine
end

