-- ==== Sys2Proof/WellFormed.lean ====
section
/-!
DEFINITION. When a command is well formed: the frame that it carries spells the row that it names (R169, R185, R190, R191).
-/

namespace Sys2Proof

open Machine

/-- R190, R191: a service frame whose request has this kind. -/
def asks (f : Frame) (kind : Nat) : Bool := isService f && requestKind f == some kind

/-- R190, R191: a LOAD TABLE for this table kind. -/
def loadsTable (f : Frame) (kind : Nat) : Bool := asks f 2 && tableKind f == some kind

/-- R190, R191: a STAND ORDER of this order kind. -/
def ordersStand (f : Frame) (kind : Nat) : Bool := asks f 3 && orderKind f == some kind

/-- R190, R191: an AUTO order with this setting. -/
def ordersAuto (f : Frame) (on : Bool) : Bool := ordersStand f 8 && autoSetting f == some on

/-- R190, R191: a GROUP ORDER of this order kind. -/
def ordersGroup (f : Frame) (kind : Nat) : Bool := asks f 4 && orderKind f == some kind

/-- R169: a service frame whose request, order or table kind is none of the known ones, or cannot be read at all. -/
def unknownToPart (f : Frame) : Bool :=
  isService f &&
    match requestKind f with
    | some 2 => !(match tableKind f with | some k => decide (k ≤ 4) | none => false)
    | some 3 => !(match orderKind f with | some k => decide (1 ≤ k ∧ k ≤ 11) | none => false)
    | some 4 => !(match orderKind f with | some k => decide (1 ≤ k ∧ k ≤ 2) | none => false)
    | some k => !decide (1 ≤ k ∧ k ≤ 9)
    | none => true

/-- A command is well formed where the frame it carries spells its row; a command that carries no frame always is. -/
def Instr.wf : Instr → Bool
  | .cycleFrame f _ => frameKind f == 1
  | .foreignFrame f => frameKind f != 1
  | .readTable f => asks f 1
  | .loadTablePart f => loadsTable f 0
  | .loadTableStand f => loadsTable f 1
  | .loadTablePath f => loadsTable f 2
  | .loadTableGroup f => loadsTable f 3
  | .loadTableGauge f => loadsTable f 4
  | .enable f => ordersStand f 1
  | .disable f => ordersStand f 2
  | .park f => ordersStand f 3
  | .resume f => ordersStand f 4
  | .mount f => ordersStand f 5
  | .unmount f => ordersStand f 6
  | .range f => ordersStand f 7
  | .autoOn f => ordersAuto f true
  | .autoOff f => ordersAuto f false
  | .spliceNow f => ordersStand f 9
  | .abort f => ordersStand f 10
  | .clearFault f => ordersStand f 11
  | .groupOrderHold f => ordersGroup f 1
  | .groupOrderRelease f => ordersGroup f 2
  | .readStand f => asks f 5
  | .readTracker f => asks f 6
  | .takeEvents f => asks f 7
  | .clearAttention f => asks f 8
  | .restartPart f => asks f 9
  | .unknownRequest f => unknownToPart f
  | .ringLossTimerExpiry _ => true
  | .resetAssert => true
  | .resetRelease _ => true
  | .automaticTrigger _ => true
  | .lockGrant _ => true
  | .forcedStart _ => true
  | .pastingAdvanceEntry _ => true
  | .pasteInstant _ => true
  | .pasteConfirm _ => true
  | .spliceCompletion _ => true
  | .matchDeadline _ => true
  | .advanceDeadline _ => true
  | .confirmDeadline _ => true
  | .knifeTimeout _ => true
  | .gaugeMeasureStart _ => true
  | .gaugeResult _ => true
  | .gaugeMeasureTimeout _ => true
  | .gaugeCancelEnd _ => true
  | .gaugeCancelTimeout _ => true
  | .samplesStale _ => true
  | .holdCheckpoint _ => true
  | .rejectPoint _ => true
  | .clearancePoint _ => true
  | .standTablePendingApply _ => true
  | .gaugeTablePendingApply _ => true
  | .pathTablePendingApply _ => true
  | .groupTablePendingApply _ => true

/-- The service frame that a command brings (R169). -/
def Instr.serviceFrame : Instr → Option Frame
  | .readTable f => some f
  | .loadTablePart f => some f
  | .loadTableStand f => some f
  | .loadTablePath f => some f
  | .loadTableGroup f => some f
  | .loadTableGauge f => some f
  | .enable f => some f
  | .disable f => some f
  | .park f => some f
  | .resume f => some f
  | .mount f => some f
  | .unmount f => some f
  | .range f => some f
  | .autoOn f => some f
  | .autoOff f => some f
  | .spliceNow f => some f
  | .abort f => some f
  | .clearFault f => some f
  | .groupOrderHold f => some f
  | .groupOrderRelease f => some f
  | .readStand f => some f
  | .readTracker f => some f
  | .takeEvents f => some f
  | .clearAttention f => some f
  | .restartPart f => some f
  | .unknownRequest f => some f
  | .cycleFrame _ _ => none
  | .foreignFrame _ => none
  | .ringLossTimerExpiry _ => none
  | .resetAssert => none
  | .resetRelease _ => none
  | .automaticTrigger _ => none
  | .lockGrant _ => none
  | .forcedStart _ => none
  | .pastingAdvanceEntry _ => none
  | .pasteInstant _ => none
  | .pasteConfirm _ => none
  | .spliceCompletion _ => none
  | .matchDeadline _ => none
  | .advanceDeadline _ => none
  | .confirmDeadline _ => none
  | .knifeTimeout _ => none
  | .gaugeMeasureStart _ => none
  | .gaugeResult _ => none
  | .gaugeMeasureTimeout _ => none
  | .gaugeCancelEnd _ => none
  | .gaugeCancelTimeout _ => none
  | .samplesStale _ => none
  | .holdCheckpoint _ => none
  | .rejectPoint _ => none
  | .clearancePoint _ => none
  | .standTablePendingApply _ => none
  | .gaugeTablePendingApply _ => none
  | .pathTablePendingApply _ => none
  | .groupTablePendingApply _ => none

/-- The frame that a command brings to IN. -/
def Instr.frame (c : Instr) : Option Frame :=
  match c.serviceFrame, c with
  | some f, _ => some f
  | none, .cycleFrame f _ => some f
  | none, .foreignFrame f => some f
  | none, _ => none

/-- The plan that a command carries. -/
def Instr.plan : Instr → Plan
  | .cycleFrame _ p => p
  | _ => {}

end Sys2Proof
end

