-- ==== Sys2Proof/Certificates/Slice0/Obligations.lean ====
section
/-!
DEFINITION. The statements for the provers, one definition each, in the order of OBLIGATIONS.json.
-/

open Sys2Proof Sys2Proof.Machine

/-! ### The machine and its commands -/

/-- One step takes the command at the front of the queue and is exec of it with the queue's rest; the rest is what waits
afterwards. On an empty queue the block idles (the queue is the model's own, log entry 4). -/
def Obligations.StepRunsFront : Prop :=
  ∀ s : State,
    (s.pending = [] → step s = .next s) ∧
    ∀ c rest, s.pending = c :: rest →
      step s = exec c { s with pending := rest } ∧ ∃ t, step s = .next t ∧ t.pending = rest

/-- Every command of the table completes, and none touches the queue (which is the model's own, log entry 4). The node address and
the level of RESET change by the RESET commands alone (R192). -/
def Obligations.EveryCommandCompletes : Prop :=
  ∀ c s, ∃ t, exec c s = .next t ∧ t.pending = s.pending ∧
    ((∀ x, c ≠ .resetRelease x) → t.nodeAddress = s.nodeAddress) ∧
    (c ≠ .resetAssert → (∀ x, c ≠ .resetRelease x) → t.resetLow = s.resetLow)

/-- R169, R185, R186, R190, R191, R192: what arrives at IN is exactly one row: the row's own conditions hold of the frame, the
frame is carried whole, and a frame that is no cycle frame is a service row exactly where the part has a node address and the
frame is addressed to it. -/
def Obligations.ArrivalNamesItsRow : Prop :=
  ∀ (node : BitVec 4) (plan : Plan) (f : Frame),
    (arrival node plan f).wf ∧ (arrival node plan f).frame = some f ∧
    ((∃ p, arrival node plan f = .cycleFrame f p) ↔ bits f.head0 24 8 = 1) ∧
    ((arrival node plan f).serviceFrame = some f ↔
      bits f.head0 24 8 = 2 ∧ node ≠ 0 ∧ f.head0.extractLsb' 16 4 = node)

/-- R192, with R7, R38, R40, R92, R94, R112, R122, R125, R134, R139, R142, R149, R160, R173, R183: RESET_RELEASE gives every block
its power-on values and the node address of the straps, whatever went before (that the release itself takes the values is DEDUCED,
log entry 7); the commands that wait go on waiting (the queue is the model's own, log entry 4). -/
def Obligations.ResetReleaseGivesPowerOn : Prop :=
  ∀ (straps : BitVec 4) (s : State), ∃ t, exec (.resetRelease straps) s = .next t ∧
    t.resetLow = false ∧ t.nodeAddress = straps ∧ t.pending = s.pending ∧ t.windows = [] ∧
    t.port.last = none ∧ t.port.effectiveLead = 2000 ∧ t.port.ring = .lost ∧ t.port.timer = none ∧
    t.port.timeBack = false ∧ t.port.shortFrame = false ∧ t.port.statusBase = 0 ∧
    t.responder.table.toList = [2000, 8, 0, 63] ∧ t.responder.loaded = false ∧ t.responder.events = [] ∧
    t.responder.eventsFlag = false ∧ t.responder.ringFlag = false ∧ t.responder.overflow = false ∧
    (∀ n, t.flagsOf n = ⟨false, false, false, false⟩ ∧ (t.stand n).state = .offline ∧ (t.stand n).faultCode = none ∧
      (t.stand n).auto = false ∧ (t.stand n).urgent = false ∧ (t.stand n).forced = false ∧ (t.stand n).newReel = none ∧
      (t.stand n).expiring = none ∧ (t.stand n).schedule = none ∧ (t.stand n).rotation = .brake ∧
      (t.stand n).arm = .retract ∧ (t.stand n).rotationRef = 0 ∧ (t.stand n).brushAt = none ∧ (t.stand n).knifeAt = none ∧
      (t.stand n).freshness = 0 ∧ (t.stand n).loaded = false ∧ (t.stand n).pendingLoad = none ∧
      (t.stand n).table.toList = [0, 4, 0, 0, 3, 1300, 1100, 80, 20, 1000, 2000, 5000, 0, 30, 4, 8, 6, 0, 0, 500, 40, 2, 8000,
        300, 50000, 12000, 10000, 1500] ∧
      (t.stand n).monitor.history = none ∧ (t.stand n).monitor.held = none ∧ (t.stand n).monitor.staleCount = 0 ∧
      (t.stand n).monitor.stale = false ∧
      (t.path n).loaded = false ∧ (t.path n).pendingLoad = none ∧
      (t.path n).table.toList = [1, 1000000, 1, 0, 0, 1000000, 1, 0, 0, 1000000, 1, 0, 0, 1000000, 1, 0, 0]) ∧
    ∀ g, (t.group g).holder = .none ∧ (t.group g).held = false ∧ (t.group g).tracker = [] ∧
      (∀ n : StandNo, (t.group g).waiting[n.val] = false) ∧ (t.group g).freshness = 0 ∧ (t.group g).orderNumber = 0 ∧
      (t.group g).copyCount = 0 ∧ (t.group g).table.toList = [0, 0, 5780, 3000, 3000, 50] ∧ (t.group g).loaded = false ∧
      (t.group g).pendingLoad = none ∧ (t.group g).monitor.history = none ∧ (t.group g).monitor.held = none ∧
      (t.group g).monitor.staleCount = 0 ∧ (t.group g).monitor.stale = false ∧
      (t.gauge g).state = .idle ∧ (t.gauge g).sequence = 0 ∧ (t.gauge g).queue = [] ∧ (t.gauge g).freshness = 0 ∧
      (t.gauge g).table.toList = [0, 0, 3000] ∧ (t.gauge g).loaded = false ∧ (t.gauge g).pendingLoad = none ∧
      (t.gauge g).monitor.history = none ∧ (t.gauge g).monitor.held = none ∧ (t.gauge g).monitor.staleCount = 0 ∧
      (t.gauge g).monitor.stale = false

/-- R192, R146, R168, R186: RESET_ASSERT drives RESET low and nothing else, and the state is kept while RESET is low, until the
release takes the power-on values (both DEDUCED, log entry 7). A frame leaves as it arrived, with nothing changed, where RESET is
low, where it is foreign, and where it is a service frame that is not for the part or that has no reply area. While RESET is low, no
command but the two RESET commands changes anything but the frame at OUT. -/
def Obligations.FramesPassUnchanged : Prop :=
  ∀ (c : Instr) (s : State),
    exec .resetAssert s = .next { s with resetLow := true } ∧
    (s.resetLow → c ≠ .resetAssert → (∀ x, c ≠ .resetRelease x) →
      exec c s = .next { s with out := match c.frame with | some f => some f | none => s.out }) ∧
    (∀ f, exec (.foreignFrame f) s = .next { s with out := some f }) ∧
    ∀ f, c.serviceFrame = some f →
      (s.nodeAddress = 0 ∨ destination f ≠ s.nodeAddress ∨ replyLength f = 0 ∨ slotCount f ≤ requestLength f) →
      exec c s = .next { s with out := some f }

/-! ### Service requests in general -/

/-- R168, R185, R186, R190, R191: the nine reply codes, and where a reply goes: it fills the first slots after the request area, the
status in bits 0 to 7 of the first; the header, the request area and the slots beyond the reply are left as they arrived. -/
def Obligations.ReplyFollowsRequestArea : Prop :=
  [ReplyStatus.done, .held, .busy, .state, .range, .overlap, .speed, .notLoaded, .unknown].map statusNumber = List.range 9 ∧
  ∀ (f : Frame) (c : ReplyStatus) (payload : List Word),
    1 + payload.length ≤ replyRoom f →
    let o := writeReply f (statusSlot c :: payload)
    o.head0 = f.head0 ∧ o.head1 = f.head1 ∧ o.head2 = f.head2 ∧ o.slots.length = f.slots.length ∧
    slotAt o.slots (requestLength f) = BitVec.ofNat 32 (statusNumber c) ∧
    (∀ i, i < payload.length → slotAt o.slots (requestLength f + 1 + i) = slotAt payload i) ∧
    ∀ i, i < requestLength f ∨ requestLength f + 1 + payload.length ≤ i → slotAt o.slots i = slotAt f.slots i

/-- R168, R169, R186, with R9, R104, R171, R172, R174, R175, R181: a request that the part hears is refused with RANGE, and changes
nothing, where its area does not match its kind, where a stand, group, instance or count that it names lies outside its range, and
where the reply area is shorter than the reply. (A request area beyond the end of the frame leaves no reply area: such a frame
leaves as it arrived, FramesPassUnchanged.) The four requests named are those whose DONE reply has a payload (R190). A request kind,
a table kind, an order kind of a stand order or of a group order that is none of R191's is refused with UNKNOWN, and nothing
changes; the areas are well formed and the stand or group lies in its range. -/
def Obligations.RequestsRefused : Prop :=
  (∀ (c : Instr) (f : Frame) (s : State) (len : Nat),
      c.serviceFrame = some f → s.hears f → replyRoom f ≠ 0 → s.frame.due = [] → areaLength c = some len →
      (requestLength f ≠ len ∨ numbersFit c = false) →
      exec c s = .next (s.answered f .range [])) ∧
  (∀ (f : Frame) (s : State), s.asked f 2 →
    (replyRoom f < 18 → bits (slotAt f.slots 1) 0 8 < 8 → exec (.readStand f) s = .next (s.answered f .range [])) ∧
    (∀ g : GroupNo, bits (slotAt f.slots 1) 0 8 = g.val → replyRoom f < 2 + 6 * (s.group g).tracker.length →
      exec (.readTracker f) s = .next (s.answered f .range [])) ∧
    (1 ≤ bits (slotAt f.slots 1) 0 8 → bits (slotAt f.slots 1) 0 8 ≤ 8 →
      replyRoom f < 2 + 4 * min (bits (slotAt f.slots 1) 0 8) s.responder.events.length →
      exec (.takeEvents f) s = .next (s.answered f .range [])) ∧
    (replyRoom f < 2 + runCount (slotAt f.slots 1) → bits (slotAt f.slots 1) 0 8 ≤ 4 →
      exec (.readTable f) s = .next (s.answered f .range []))) ∧
  ∀ (f : Frame) (s : State) (len : Nat), s.asked f len → 1 ≤ len →
    let kind := bits (slotAt f.slots 0) 0 8
    let w := slotAt f.slots 1
    ((kind = 0 ∨ 9 < kind) ∨
      (kind = 2 ∧ 2 ≤ len ∧ len = 2 + runCount w ∧ 4 < bits w 0 8) ∨
      (kind = 3 ∧ len = 2 ∧ bits w 0 4 < 8 ∧ (bits w 8 8 = 0 ∨ 11 < bits w 8 8)) ∨
      (kind = 4 ∧ len = 2 ∧ bits w 0 8 < 4 ∧ (bits w 8 8 = 0 ∨ 2 < bits w 8 8)) →
      exec (.unknownRequest f) s = .next (s.answered f .unknown [])) ∧
    (len = 2 → 4 < bits w 0 8 → exec (.readTable f) s = .next (s.answered f .unknown []))

/-! ### Stand orders (chapter 1) -/

/-- R9 to R20, the STATE cells of R9's table: a stand order that the stand's state and phase do not admit is answered STATE and
changes no state, no record, no status item and no command value. -/
def Obligations.StateRefusesOrders : Prop :=
  ∀ (c : Instr) (f : Frame) (s : State) (len : Nat) (n : StandNo),
    c.serviceFrame = some f → orderLength c = some len → s.ordered f len n → admits c (s.stand n).state = false →
    exec c s = .next (s.answered f .state [])

/-- R10, R12: ENABLE; and a stand that it has put to PARKED does not feed, whatever its samples show. -/
def Obligations.Enable : Prop :=
  ∀ (f : Frame) (s : State) (n : StandNo), s.ordered f 2 n →
    ((s.stand n).state ≠ .offline → exec (.enable f) s = .next (s.answered f .state [])) ∧
    ((s.stand n).state = .offline →
      ((s.stand n).loaded ∧ (s.path n).loaded ∧ (s.group (groupEntry (s.stand n).table)).loaded ∧
          (∀ g, gaugeEntry (s.stand n).table = some g → (s.gauge g).loaded) →
        exec (.enable f) s = .next
          (((s.onStand n fun st => { st with state := .parked, faultCode := none }).onResponder fun r =>
            { r with flags := r.flags.set n.val ⟨false, false, false, false⟩ }).answered f .done [])) ∧
      (¬((s.stand n).loaded ∧ (s.path n).loaded ∧ (s.group (groupEntry (s.stand n).table)).loaded ∧
          (∀ g, gaugeEntry (s.stand n).table = some g → (s.gauge g).loaded)) →
        exec (.enable f) s = .next (s.answered f .notLoaded []))) ∧
    ((s.stand n).state = .parked → perform (.sample n) s = s)

/-- R11, R5, R107, R114, R120: DISABLE, with what the stand leaves at its group and its gauge. Where both a stand-table load and a
group-table load are free now, the stand's is applied before the group's (DEDUCED, log entry 12). -/
def Obligations.Disable : Prop :=
  ∀ (f : Frame) (s : State) (n : StandNo), s.ordered f 2 n →
    ((s.stand n).state = .offline → exec (.disable f) s = .next (s.answered f .done [])) ∧
    ((s.stand n).state.isPasting → exec (.disable f) s = .next (s.answered f .state [])) ∧
    ((s.stand n).state ≠ .offline → (s.stand n).state.isPasting = false →
      let left : State :=
        if (s.stand n).state = .ranging then
          match gaugeEntry (s.stand n).table with
          | none => s
          | some g => s.onGauge g fun u =>
              if u.measures n then { u with state := .cancelling (s.now + BitVec.ofNat 32 (1000 * measureTimeout u.table)) }
              else { u with queue := u.queue.filter (· != n) }
        else if (s.stand n).state = .waiting then
          s.onGroup (s.groupOf n) fun g => { g with waiting := g.waiting.set n.val false }
        else if (s.stand n).state = .accelerating ∧ (s.group (s.groupOf n)).holder = .stand n then
          (s.onGroup (s.groupOf n) fun g => { g with holder := .none }).takeEvent .lockReleased (some n)
            (some (.group (s.groupOf n))) none
        else s
      exec (.disable f) s = .next
        ((settleGroup (s.groupOf n) (settleStand n (left.onStand n fun st =>
          { st with
            state := .offline, urgent := false, forced := false, schedule := none, rotation := .brake, rotationRef := 0
            arm := .retract, brushAt := none, knifeAt := none
            expiring := st.expiring.map fun r => { r with estimate := none } }))).answered f .done []))

/-- R12, R17: PARK, AUTO ON and AUTO OFF; and what a PARKED stand does not do: its accepted samples and the frames' deadlines
change nothing. -/
def Obligations.ParkAndAuto : Prop :=
  ∀ (f : Frame) (s : State) (n : StandNo),
    (s.ordered f 2 n →
      ((s.stand n).state ∈ [StandState.running, .loaded, .ready] →
        exec (.park f) s = .next ((s.onStand n fun st => { st with state := .parked }).answered f .done [])) ∧
      ((s.stand n).state ∉ [StandState.running, .loaded, .ready] →
        exec (.park f) s = .next (s.answered f .state [])) ∧
      ((s.stand n).state ≠ .offline →
        exec (.autoOn f) s = .next ((s.onStand n fun st => { st with auto := true }).answered f .done []) ∧
        exec (.autoOff f) s = .next ((s.onStand n fun st => { st with auto := false }).answered f .done [])) ∧
      ((s.stand n).state = .offline →
        exec (.autoOn f) s = .next (s.answered f .state []) ∧ exec (.autoOff f) s = .next (s.answered f .state []))) ∧
    ((s.stand n).state = .parked → perform (.sample n) s = s ∧ perform (.deadline n) s = s)

/-- R13, R35, R37, R4: RESUME, with the record that it creates or whose baseline it re-takes, and the settled state. -/
def Obligations.Resume : Prop :=
  ∀ (f : Frame) (s : State) (n : StandNo), s.ordered f 2 n →
    (((s.stand n).state ≠ .parked ∨ (s.stand n).monitor.held = none ∨
        (∃ v, (s.stand n).monitor.held = some v ∧ v.web = false)) →
      exec (.resume f) s = .next (s.answered f .state [])) ∧
    ∀ v, (s.stand n).monitor.held = some v → v.web = true → (s.stand n).state = .parked →
      exec (.resume f) s = .next
        ((s.onStand n fun st =>
          { st with
            expiring := some (match st.expiring with
              | some r => { r with lastRevolution := v.revolutions, lastLatched := v.latched }
              | none =>
                { ident := none, caliper := defaultCaliper st.table, origin := .threaded, estimate := none
                  lastRevolution := v.revolutions, lastLatched := v.latched, lowReported := false })
            state := match st.newReel with
              | some r => (match r.diameter with | some _ => .ready | none => .loaded)
              | none => .running }).answered f .done [])

/-- R14, R33, R184, R190: MOUNT, its values read from the request area. That an ident length outside 1 to 12 counts among the
values, which a state that does not admit MOUNT leaves unjudged, is DEDUCED (log entry 15). -/
def Obligations.Mount : Prop :=
  ∀ (f : Frame) (s : State) (n : StandNo), s.ordered f 8 n →
    let w := slotAt f.slots 2
    let ident : Option Ident :=
      if w.getLsbD 0 then
        some ((List.range (bits w 8 4)).map fun i => (slotAt f.slots (5 + i / 4)).extractLsb' (8 * (i % 4)) 8)
      else none
    let caliper : Option Nat := if w.getLsbD 1 then some (slotAt f.slots 3).toNat else none
    let diameter : Option Nat := if w.getLsbD 2 then some (slotAt f.slots 4).toNat else none
    let fits : Prop :=
      (∀ i, ident = some i → 1 ≤ i.length ∧ i.length ≤ 12 ∧ ∀ c ∈ i, 32 ≤ c.toNat ∧ c.toNat ≤ 126) ∧
      (∀ c, caliper = some c → 40 ≤ c ∧ c ≤ 200) ∧ (∀ d, diameter = some d → 500 ≤ d ∧ d ≤ 15000)
    ((s.stand n).state ∉ [StandState.running, .loaded, .ready] → exec (.mount f) s = .next (s.answered f .state [])) ∧
    ((s.stand n).state ∈ [StandState.running, .loaded, .ready] → ¬fits → exec (.mount f) s = .next (s.answered f .range [])) ∧
    ((s.stand n).state ∈ [StandState.running, .loaded, .ready] → fits →
      exec (.mount f) s = .next
        ((s.onStand n fun st =>
          { st with
            newReel := some
              { ident := ident, caliper := caliper.getD (defaultCaliper st.table)
                diameter := diameter.map fun d => ⟨d, .manual⟩, mark := none, mountTime := s.now }
            state := if diameter.isSome then .ready else .loaded }).answered f .done []))

/-- R15, R5, R114, R120: UNMOUNT, with what the stand leaves at its gauge or its group. -/
def Obligations.Unmount : Prop :=
  ∀ (f : Frame) (s : State) (n : StandNo), s.ordered f 2 n →
    ((s.stand n).state ∉ [StandState.loaded, .ranging, .ready, .waiting] →
      exec (.unmount f) s = .next (s.answered f .state [])) ∧
    ((s.stand n).state ∈ [StandState.loaded, .ready] →
      exec (.unmount f) s = .next
        ((settleStand n (s.onStand n fun st => { st with state := .running, newReel := none })).answered f .done [])) ∧
    ((s.stand n).state = .waiting →
      exec (.unmount f) s = .next
        ((settleStand n ((s.onGroup (s.groupOf n) fun g => { g with waiting := g.waiting.set n.val false }).onStand n fun st =>
          { st with state := .running, newReel := none, urgent := false, forced := false })).answered f .done [])) ∧
    ∀ g, (s.stand n).state = .ranging → gaugeEntry (s.stand n).table = some g →
      exec (.unmount f) s = .next
        ((settleStand n ((s.onGauge g fun u =>
            if u.measures n then { u with state := .cancelling (s.now + BitVec.ofNat 32 (1000 * measureTimeout u.table)) }
            else { u with queue := u.queue.filter (· != n) }).onStand n fun st =>
          { st with state := .running, newReel := none })).answered f .done [])

/-- R16: RANGE. -/
def Obligations.RangeOrder : Prop :=
  ∀ (f : Frame) (s : State) (n : StandNo), s.ordered f 2 n →
    ((s.stand n).state ∉ [StandState.loaded, .ready] → exec (.range f) s = .next (s.answered f .state [])) ∧
    ((s.stand n).state ∈ [StandState.loaded, .ready] → gaugeEntry (s.stand n).table = none →
      exec (.range f) s = .next (s.answered f .range [])) ∧
    ∀ g, (s.stand n).state ∈ [StandState.loaded, .ready] → gaugeEntry (s.stand n).table = some g →
      exec (.range f) s = .next
        (((s.onStand n fun st =>
            { st with state := .ranging, newReel := st.newReel.map fun r => { r with diameter := none } }).onGauge g fun u =>
          { u with queue := u.queue ++ [n] }).answered f .done [])

/-- R18, R22: SPLICE-NOW. -/
def Obligations.SpliceNow : Prop :=
  ∀ (f : Frame) (s : State) (n : StandNo), s.ordered f 2 n →
    ((s.stand n).state ≠ .ready → exec (.spliceNow f) s = .next (s.answered f .state [])) ∧
    ((s.stand n).state = .ready →
      ((∀ v, (s.stand n).monitor.held = some v → v.webSpeed < minimumSpeed (s.stand n).table) →
        exec (.spliceNow f) s = .next (s.answered f .speed [])) ∧
      ∀ v, (s.stand n).monitor.held = some v → minimumSpeed (s.stand n).table ≤ v.webSpeed →
        exec (.spliceNow f) s = .next
          (((s.onStand n fun st => { st with state := .waiting, urgent := true, forced := false }).onGroup (s.groupOf n) fun g =>
            { g with waiting := g.waiting.set n.val true }).answered f .done []))

/-- R19, R5, R107: ABORT. Where both a stand-table load and a group-table load are free now, the stand's is applied before the
group's (DEDUCED, log entry 12). -/
def Obligations.Abort : Prop :=
  ∀ (f : Frame) (s : State) (n : StandNo), s.ordered f 2 n →
    ((s.stand n).state ∈ [StandState.pasting .brush, .pasting .cut] →
      exec (.abort f) s = .next (s.answered f .state [])) ∧
    ((s.stand n).state ∈ [StandState.offline, .parked, .running, .loaded, .ranging, .ready, .fault] →
      exec (.abort f) s = .next (s.answered f .done [])) ∧
    ((s.stand n).state = .waiting →
      exec (.abort f) s = .next
        ((settleStand n ((s.onGroup (s.groupOf n) fun g => { g with waiting := g.waiting.set n.val false }).onStand n fun st =>
          { st with state := .ready, urgent := false, forced := false })).answered f .done [])) ∧
    ((s.stand n).state ∈ [StandState.accelerating, .pasting .advance] →
      let left : State :=
        if (s.group (s.groupOf n)).holder = .stand n then
          (s.onGroup (s.groupOf n) fun g => { g with holder := .none }).takeEvent .lockReleased (some n)
            (some (.group (s.groupOf n))) none
        else s
      exec (.abort f) s = .next
        ((settleGroup (s.groupOf n) (settleStand n (left.onStand n fun st =>
          { st with
            state := .ready, forced := false, rotation := .brake, rotationRef := 0, schedule := none, brushAt := none
            knifeAt := none, arm := if (s.stand n).state = .pasting .advance then .retract else st.arm }))).answered f .done []))

/-- R20, R37, R4: CLEAR-FAULT, to the settled state. -/
def Obligations.ClearFault : Prop :=
  ∀ (f : Frame) (s : State) (n : StandNo), s.ordered f 2 n →
    ((s.stand n).state ≠ .fault → exec (.clearFault f) s = .next (s.answered f .state [])) ∧
    ((s.stand n).state = .fault →
      ((s.stand n).monitor.held = none ∨ (∃ v, (s.stand n).monitor.held = some v ∧ v.web = false) →
        exec (.clearFault f) s = .next
          ((s.onStand n fun st => { st with faultCode := none, state := .parked }).answered f .done [])) ∧
      ∀ v, (s.stand n).monitor.held = some v → v.web = true →
        exec (.clearFault f) s = .next
          ((s.onStand n fun st =>
            { st with
              faultCode := none
              expiring := st.expiring.map fun r => { r with lastRevolution := v.revolutions, lastLatched := v.latched }
              state := match st.newReel with
                | some r => (match r.diameter with | some _ => .ready | none => .loaded)
                | none => .running }).answered f .done []))

/-! ### The other requests (chapters 5 and 9) -/

/-- R104, R97: HOLD and RELEASE of a group in range, in every condition of the group; and while the group is HELD no grant is
made for it. -/
def Obligations.GroupOrders : Prop :=
  ∀ (f : Frame) (s : State) (g : GroupNo),
    (s.asked f 2 → bits (slotAt f.slots 1) 0 8 = g.val →
      exec (.groupOrderHold f) s = .next ((s.onGroup g fun u => { u with held := true }).answered f .done []) ∧
      exec (.groupOrderRelease f) s = .next ((s.onGroup g fun u => { u with held := false }).answered f .done [])) ∧
    ((s.group g).held → perform (.grant g) s = s)

/-- R182, R7, R38, R45, R110, R123, R144, R149, R160, R183: RESTART PART: refused with STATE while any stand is in PASTING; else
what every block holds afterwards. A pending load is applied with its effects on the field's monitor, and a MEASURING gauge cancels
by the timeout then in force. Between commands no field waits for its judgement (FrameWorkTaken states it). -/
def Obligations.RestartPart : Prop :=
  ∀ (f : Frame) (s : State), s.asked f 1 →
    ((∃ n, (s.stand n).state.isPasting) → exec (.restartPart f) s = .next (s.answered f .state [])) ∧
    ((∀ n, (s.stand n).state.isPasting = false) → s.frame.handed = [] →
      ∃ t, exec (.restartPart f) s = .next t ∧ t.out = some (writeReply f [statusSlot .done]) ∧ t.windows = [] ∧
        t.port = s.port ∧ t.frame = s.frame ∧
        t.responder =
          { s.responder with
            flags := Vector.replicate 8 ⟨false, false, false, false⟩, eventsFlag := false, ringFlag := false, events := []
            overflow := false } ∧
        (∀ n, t.path n =
          match (s.path n).pendingLoad with
          | some l => { table := l.over (s.path n).table, loaded := true, pendingLoad := none }
          | none => s.path n) ∧
        (∀ n,
          let st := s.stand n
          let r :=
            { st with
              state := .offline, faultCode := none, auto := false, urgent := false, forced := false, newReel := none
              expiring := none, schedule := none, rotationRef := 0, brushAt := none, knifeAt := none
              rotation := if st.state = .accelerating then .brake else st.rotation
              arm := if st.state = .accelerating then .retract else st.arm }
          t.stand n =
            match st.pendingLoad with
            | none => r
            | some l =>
              { r with
                table := l.over st.table, loaded := true, pendingLoad := none
                monitor := monitorAfterLoad st.loaded (sampleBase st.table) (sampleBase (l.over st.table)) st.monitor }) ∧
        (∀ g,
          let u := s.group g
          let r := { u with holder := .none, held := false, waiting := Vector.replicate 8 false, tracker := [] }
          t.group g =
            match u.pendingLoad with
            | none => r
            | some l =>
              { r with
                table := l.over u.table, loaded := true, pendingLoad := none
                monitor :=
                  folderMonitorAfterLoad u.loaded (folderSampleBase u.table) (folderSampleBase (l.over u.table)) u.monitor }) ∧
        ∀ g,
          let u := s.gauge g
          let r :=
            match u.pendingLoad with
            | none => { u with queue := [] }
            | some l =>
              { u with
                queue := [], table := l.over u.table, loaded := true, pendingLoad := none
                monitor := monitorAfterLoad u.loaded (gaugeSampleBase u.table) (gaugeSampleBase (l.over u.table)) u.monitor }
          t.gauge g =
            { r with
              state := match u.state with
                | .measuring _ _ => .cancelling (s.now + BitVec.ofNat 32 (1000 * measureTimeout r.table))
                | x => x })

/-- R171, R170, R190: READ TABLE of each table kind: the loaded condition, whether a load is pending, and the applied values of
the run; a run past the last entry is refused with RANGE. It changes nothing but the frame at OUT. -/
def Obligations.ReadTable : Prop :=
  ∀ (f : Frame) (s : State) (kind inst first count : Nat), s.asked f 2 →
    bits (slotAt f.slots 1) 0 8 = kind → bits (slotAt f.slots 1) 8 4 = inst → bits (slotAt f.slots 1) 16 8 = first →
    (if bits (slotAt f.slots 1) 24 5 = 0 then 16 else bits (slotAt f.slots 1) 24 5) = count →
    count ≤ 16 → 2 + count ≤ replyRoom f →
    let read (entries : List Word) (loaded pending : Bool) : Prop :=
      (entries.length < first + count → exec (.readTable f) s = .next (s.answered f .range [])) ∧
      (first + count ≤ entries.length → ∃ heading values,
        exec (.readTable f) s = .next (s.answered f .done (heading :: values)) ∧
        heading.getLsbD 0 = loaded ∧ heading.getLsbD 1 = pending ∧ values.length = count ∧
        ∀ i, i < count → values[i]? = entries[first + i]?)
    (kind = 0 → inst = 0 → read s.responder.table.toList s.responder.loaded false) ∧
    (∀ n : StandNo, kind = 1 → inst = n.val →
      read (s.stand n).table.toList (s.stand n).loaded (s.stand n).pendingLoad.isSome) ∧
    (∀ n : StandNo, kind = 2 → inst = n.val →
      read (s.path n).table.toList (s.path n).loaded (s.path n).pendingLoad.isSome) ∧
    (∀ g : GroupNo, kind = 3 → inst = g.val →
      read (s.group g).table.toList (s.group g).loaded (s.group g).pendingLoad.isSome) ∧
    (∀ g : GaugeNo, kind = 4 → inst = g.val →
      read (s.gauge g).table.toList (s.gauge g).loaded (s.gauge g).pendingLoad.isSome)

/-- R174, R175, R190: READ STAND and READ TRACKER with a reply area that is long enough: they change nothing but the frame at OUT,
and their replies hold every item of the stand's summary and records, 0 for one that is absent, and the group's holder, hold
condition and list. -/
def Obligations.ReadStandAndTracker : Prop :=
  ∀ (f : Frame) (s : State), s.asked f 2 →
    (∀ n : StandNo, bits (slotAt f.slots 1) 0 8 = n.val → 18 ≤ replyRoom f →
      ∃ p, exec (.readStand f) s = .next (s.answered f .done p) ∧ p.length = 17 ∧
        let st := s.stand n
        let w i := slotAt p i
        bits (w 0) 0 4 = stateCode st.state ∧ bits (w 0) 4 2 = phaseCode st.state ∧ bits (w 0) 8 4 = faultItem st.faultCode ∧
        (w 0).getLsbD 16 = st.auto ∧ (w 0).getLsbD 17 = st.urgent ∧ (w 0).getLsbD 18 = st.forced ∧
        (w 0).getLsbD 19 = st.monitor.stale ∧
        let ident (from_ : Nat) (head : Word) (id : Option Ident) : Prop :=
          head.getLsbD 1 = id.isSome ∧ ((id.getD []).length < 16 → bits head 8 4 = (id.getD []).length) ∧
            ∀ i, i < 12 → (slotAt p (from_ + i / 4)).extractLsb' (8 * (i % 4)) 8 = (id.getD []).getD i 0
        (w 1).getLsbD 0 = st.newReel.isSome ∧ (w 9).getLsbD 0 = st.expiring.isSome ∧
        (st.newReel = none → ∀ i, 1 ≤ i → i ≤ 8 → w i = 0) ∧ (st.expiring = none → ∀ i, 9 ≤ i → i ≤ 16 → w i = 0) ∧
        (∀ r, st.newReel = some r → ident 6 (w 1) r.ident ∧ (w 1).getLsbD 2 = r.diameter.isSome ∧
          ((w 1).getLsbD 3 = true ↔ ∃ d, r.diameter = some ⟨d, .gauge⟩) ∧
          (w 1).getLsbD 4 = r.mark.isSome ∧ w 2 = BitVec.ofNat 32 r.caliper ∧
          w 3 = BitVec.ofNat 32 ((r.diameter.map (·.value)).getD 0) ∧ w 4 = (r.mark.getD 0).setWidth 32 ∧
          w 5 = r.mountTime) ∧
        ∀ r, st.expiring = some r → ident 14 (w 9) r.ident ∧ (w 9).getLsbD 2 = decide (r.origin = .spliced) ∧
          (w 9).getLsbD 3 = r.estimate.isSome ∧ (w 9).getLsbD 5 = r.lowReported ∧ w 10 = BitVec.ofNat 32 r.caliper ∧
          (r.estimate = none → (w 9).getLsbD 4 = false ∧ w 11 = 0 ∧ w 12 = 0 ∧ w 13 = 0) ∧
          ∀ e, r.estimate = some e → w 11 = BitVec.ofNat 32 e.diameter ∧ w 12 = BitVec.ofNat 32 e.length ∧
            (e.time = .unbounded → (w 9).getLsbD 4 = true ∧ w 13 = 0) ∧
            ∀ k, e.time = .ms k → (w 9).getLsbD 4 = false ∧ w 13 = BitVec.ofNat 32 k) ∧
    ∀ g : GroupNo, bits (slotAt f.slots 1) 0 8 = g.val → (s.group g).tracker.length ≤ 8 →
      2 + 6 * (s.group g).tracker.length ≤ replyRoom f →
      ∃ p, exec (.readTracker f) s = .next (s.answered f .done p) ∧ p.length = 1 + 6 * (s.group g).tracker.length ∧
        (slotAt p 0).getLsbD 8 = (s.group g).held ∧ bits (slotAt p 0) 12 4 = (s.group g).tracker.length ∧
        ((s.group g).holder = .none → bits (slotAt p 0) 0 2 = 0) ∧
        (∀ n, (s.group g).holder = .stand n → bits (slotAt p 0) 0 2 = 1 ∧ bits (slotAt p 0) 4 4 = n.val) ∧
        (∀ n, (s.group g).holder = .entry n → bits (slotAt p 0) 0 2 = 2 ∧ bits (slotAt p 0) 4 4 = n.val) ∧
        ∀ k e, (s.group g).tracker[k]? = some e → (e.ident.getD []).length ≤ 12 → e.next < 4 → e.copies.getD 0 < 256 →
          let w := slotAt p (1 + 6 * k)
          bits w 0 4 = e.stand.val ∧ w.getLsbD 4 = e.ident.isSome ∧ bits w 8 4 = (e.ident.getD []).length ∧
          w.getLsbD 12 = e.forced ∧ w.getLsbD 13 = e.holdsLock ∧ w.getLsbD 14 = e.rejectIssued ∧
          bits w 16 2 = e.next ∧ bits w 24 8 = e.copies.getD 0 ∧
          slotAt p (2 + 6 * k) = e.contactTime ∧ slotAt p (3 + 6 * k) = e.contactLength ∧
          ∀ i, i < 12 → (slotAt p (4 + 6 * k + i / 4)).extractLsb' (8 * (i % 4)) 8 = (e.ident.getD []).getD i 0

/-- R181, R190, R191: TAKE EVENTS: RANGE with a count outside 1 to 8; with a count from 1 to 8 and a reply area that is long enough,
the oldest records leave the queue and stand in the reply, oldest first, their kinds by R191's twenty-six codes; the overflow flag
and the EVENTS flag stay. -/
def Obligations.TakeEvents : Prop :=
  [EventKind.spliceDone, .spliceForced, .pasteMiss, .pasteUnknown, .knifeFail, .matchFail, .markFail, .setupFail, .driveFail,
      .webLost, .speedAbort, .samplesStale, .samplesFresh, .rangeDone, .rangeBad, .gaugeTimeout, .reelLow, .rejectIssued,
      .rejectMissed, .lockGranted, .lockReleased, .ringLost, .ringBack, .timeBack, .fieldRange, .tableApplied].map eventNumber =
    List.range' 1 26 ∧
  ∀ (f : Frame) (s : State) (count : Nat), s.asked f 2 → bits (slotAt f.slots 1) 0 8 = count →
    (count = 0 ∨ 8 < count → exec (.takeEvents f) s = .next (s.answered f .range [])) ∧
    (1 ≤ count → count ≤ 8 →
      s.responder.events.length ≤ 32 → 2 + 4 * min count s.responder.events.length ≤ replyRoom f →
      ∃ p, exec (.takeEvents f) s = .next
          ((s.onResponder fun r => { r with events := r.events.drop count }).answered f .done p) ∧
        p.length = 1 + 4 * min count s.responder.events.length ∧
        bits (slotAt p 0) 0 4 = min count s.responder.events.length ∧
        bits (slotAt p 0) 8 6 = s.responder.events.length - count ∧ (slotAt p 0).getLsbD 16 = s.responder.overflow ∧
        ∀ k e, s.responder.events[k]? = some e → k < count →
          bits (slotAt p (1 + 4 * k)) 0 8 = eventNumber e.kind ∧ (slotAt p (1 + 4 * k)).getLsbD 8 = e.stand.isSome ∧
          (∀ n, e.stand = some n → bits (slotAt p (1 + 4 * k)) 12 3 = n.val) ∧
          (slotAt p (1 + 4 * k)).getLsbD 16 = e.unit.isSome ∧
          (∀ g, e.unit = some (.group g) →
            (slotAt p (1 + 4 * k)).getLsbD 17 = false ∧ bits (slotAt p (1 + 4 * k)) 20 2 = g.val) ∧
          (∀ g, e.unit = some (.gauge g) →
            (slotAt p (1 + 4 * k)).getLsbD 17 = true ∧ bits (slotAt p (1 + 4 * k)) 20 2 = g.val) ∧
          (slotAt p (1 + 4 * k)).getLsbD 24 = e.detail.isSome ∧ bits (slotAt p (2 + 4 * k)) 0 16 = e.cycle.toNat ∧
          slotAt p (3 + 4 * k) = e.time ∧ slotAt p (4 + 4 * k) = BitVec.ofNat 32 (e.detail.getD 0))

/-- R178, R190: CLEAR ATTENTION: each named flag becomes clear, and the overflow flag; the flags that are not named, the queue and
all else stay. -/
def Obligations.ClearAttention : Prop :=
  ∀ (f : Frame) (s : State), s.asked f 3 →
    let a := slotAt f.slots 1
    let b := slotAt f.slots 2
    ∃ t, exec (.clearAttention f) s = .next t ∧
      (∀ n : StandNo, t.flagsOf n =
        { fault := if a.getLsbD (4 * n.val) then false else (s.flagsOf n).fault
          spliceDone := if a.getLsbD (4 * n.val + 1) then false else (s.flagsOf n).spliceDone
          rangeResult := if a.getLsbD (4 * n.val + 2) then false else (s.flagsOf n).rangeResult
          stale := if a.getLsbD (4 * n.val + 3) then false else (s.flagsOf n).stale }) ∧
      t.responder.eventsFlag = (if b.getLsbD 0 then false else s.responder.eventsFlag) ∧
      t.responder.ringFlag = (if b.getLsbD 1 then false else s.responder.ringFlag) ∧
      t = ({ s with
        responder :=
          { s.responder with
            flags := t.responder.flags, eventsFlag := t.responder.eventsFlag, ringFlag := t.responder.ringFlag
            overflow := false } } : State).answered f .done []

/-! ### Table loads (chapters 2, 6, 7 and 9) -/

/-- R42, R41, R40, R43, R44, R45, R153, R170, R172: LOAD TABLE of a stand table: the five tests in their order, then applied at once
with DONE, or kept pending with HELD in the four states that hold it. `l` is the run of the request. Between commands no field waits
for its judgement (FrameWorkTaken states it). -/
def Obligations.LoadTableStand : Prop :=
  ∀ (f : Frame) (s : State) (n : StandNo) (l : Load) (t : StandTable),
    s.asked f (2 + l.values.length) → runCount (slotAt f.slots 1) = l.values.length →
    bits (slotAt f.slots 1) 8 4 = n.val → bits (slotAt f.slots 1) 16 8 = l.first →
    (f.slots.drop 2).take l.values.length = l.values →
    (∀ i : Fin 28, t[i.val] =
      if l.first ≤ i.val ∧ i.val < l.first + l.values.length then slotAt l.values (i.val - l.first)
      else (s.stand n).table[i.val]) →
    let inRange : Prop := l.values.length ≤ 16 ∧ l.first + l.values.length ≤ 28 ∧
      ∀ i, i < l.values.length → withinBounds (standBounds (l.first + i)) (slotAt l.values i)
    let clear : Prop := ∀ o ∈ allTables, o ≠ .stand n → ∀ y ∈ s.fieldsOf o,
      conflict (standField n t) y = false
    let tables : Prop := (s.group (groupEntry t)).loaded ∧ ∀ g, gaugeEntry t = some g → (s.gauge g).loaded
    let deferring := (s.stand n).state ∈
      [StandState.ranging, .waiting, .accelerating, .pasting .advance, .pasting .brush, .pasting .cut]
    (¬inRange → exec (.loadTableStand f) s = .next (s.answered f .range [])) ∧
    (inRange → (s.stand n).pendingLoad.isSome → exec (.loadTableStand f) s = .next (s.answered f .busy [])) ∧
    (inRange → (s.stand n).pendingLoad = none →
      (spliceDiameter t ≤ coreDiameter t → exec (.loadTableStand f) s = .next (s.answered f .range [])) ∧
      (coreDiameter t < spliceDiameter t → ¬clear → exec (.loadTableStand f) s = .next (s.answered f .overlap [])) ∧
      (coreDiameter t < spliceDiameter t → clear → (s.stand n).state ≠ .offline → ¬tables →
        exec (.loadTableStand f) s = .next (s.answered f .notLoaded [])) ∧
      (coreDiameter t < spliceDiameter t → clear → ((s.stand n).state = .offline ∨ tables) →
        (deferring → exec (.loadTableStand f) s = .next
          ((s.onStand n fun st => { st with pendingLoad := some l }).answered f .held [])) ∧
        (¬deferring → s.frame.handed = [] → exec (.loadTableStand f) s = .next
          ((s.onStand n fun st =>
            { st with
              table := t, loaded := true
              monitor := monitorAfterLoad st.loaded (sampleBase st.table) (sampleBase t) st.monitor }).answered f .done []))))

/-- R140, R139, R44, R152, R170, R172: LOAD TABLE of a path table: the four tests in their order, then applied at once with DONE, or
kept pending with HELD while the stand has an entry in a tracker list. -/
def Obligations.LoadTablePath : Prop :=
  ∀ (f : Frame) (s : State) (n : StandNo) (l : Load) (t : PathEntries),
    s.asked f (2 + l.values.length) → runCount (slotAt f.slots 1) = l.values.length →
    bits (slotAt f.slots 1) 8 4 = n.val → bits (slotAt f.slots 1) 16 8 = l.first →
    (f.slots.drop 2).take l.values.length = l.values →
    (∀ i : Fin 17, t[i.val] =
      if l.first ≤ i.val ∧ i.val < l.first + l.values.length then slotAt l.values (i.val - l.first)
      else (s.path n).table[i.val]) →
    let inRange : Prop := l.values.length ≤ 16 ∧ l.first + l.values.length ≤ 17 ∧
      ∀ i, i < l.values.length → withinBounds (pathBounds (l.first + i)) (slotAt l.values i)
    let shaped : Prop :=
      (∀ c, c < checkpointCount t → (isHold t c = true ↔ c + 1 < checkpointCount t)) ∧
      ∀ c, c + 1 < checkpointCount t → pathLength t c < pathLength t (c + 1)
    let clear : Prop := ∀ c, c < checkpointCount t → isHold t c → ∀ o ∈ allTables, o ≠ .path n → ∀ y ∈ s.fieldsOf o,
      conflict ⟨.hold (holdSlot t c), holdSlot t c, 1⟩ y = false
    let entered : Prop := ∃ g, ∃ e ∈ (s.group g).tracker, e.stand = n
    (¬inRange → exec (.loadTablePath f) s = .next (s.answered f .range [])) ∧
    (inRange → (s.path n).pendingLoad.isSome → exec (.loadTablePath f) s = .next (s.answered f .busy [])) ∧
    (inRange → (s.path n).pendingLoad = none →
      (¬shaped → exec (.loadTablePath f) s = .next (s.answered f .range [])) ∧
      (shaped → ¬clear → exec (.loadTablePath f) s = .next (s.answered f .overlap [])) ∧
      (shaped → clear → entered → exec (.loadTablePath f) s = .next
        ((s.onPath n fun p => { p with pendingLoad := some l }).answered f .held [])) ∧
      (shaped → clear → ¬entered → exec (.loadTablePath f) s = .next
        ((s.onPath n fun p => { p with table := t, loaded := true }).answered f .done [])))

/-- R143, R122, R142, R152, R153, R170, R172: LOAD TABLE of a group table and of a gauge table: the three tests in their order, then
applied at once with DONE, or kept pending with HELD (a group with a holder or tracker entries; a gauge in MEASURING or CANCELLING).
Between commands no field waits for its judgement (FrameWorkTaken states it). -/
def Obligations.LoadTableGroupAndGauge : Prop :=
  ∀ (f : Frame) (s : State) (g : Fin 4) (l : Load) (t : GroupTable) (u : GaugeTable),
    s.asked f (2 + l.values.length) → runCount (slotAt f.slots 1) = l.values.length →
    bits (slotAt f.slots 1) 8 4 = g.val → bits (slotAt f.slots 1) 16 8 = l.first →
    (f.slots.drop 2).take l.values.length = l.values → s.frame.handed = [] →
    (∀ i : Fin 6, t[i.val] =
      if l.first ≤ i.val ∧ i.val < l.first + l.values.length then slotAt l.values (i.val - l.first)
      else (s.group g).table[i.val]) →
    (∀ i : Fin 3, u[i.val] =
      if l.first ≤ i.val ∧ i.val < l.first + l.values.length then slotAt l.values (i.val - l.first)
      else (s.gauge g).table[i.val]) →
    let inRange (entries : Nat) (bounds : Nat → Bounds) : Prop := l.values.length ≤ 16 ∧ l.first + l.values.length ≤ entries ∧
      ∀ i, i < l.values.length → withinBounds (bounds (l.first + i)) (slotAt l.values i)
    let clear (id : TableId) (x : Placed OutputField) : Prop :=
      ∀ o ∈ allTables, o ≠ id → ∀ y ∈ s.fieldsOf o, conflict x y = false
    ((¬inRange 6 groupBounds → exec (.loadTableGroup f) s = .next (s.answered f .range [])) ∧
      (inRange 6 groupBounds → (s.group g).pendingLoad.isSome →
        exec (.loadTableGroup f) s = .next (s.answered f .busy [])) ∧
      (inRange 6 groupBounds → (s.group g).pendingLoad = none →
        (¬clear (.group g) (folderField g t) → exec (.loadTableGroup f) s = .next (s.answered f .overlap [])) ∧
        (clear (.group g) (folderField g t) →
          ((s.group g).holder ≠ .none ∨ (s.group g).tracker ≠ [] → exec (.loadTableGroup f) s = .next
            ((s.onGroup g fun x => { x with pendingLoad := some l }).answered f .held [])) ∧
          ((s.group g).holder = .none → (s.group g).tracker = [] → exec (.loadTableGroup f) s = .next
            ((s.onGroup g fun x =>
              { x with
                table := t, loaded := true
                monitor :=
                  folderMonitorAfterLoad x.loaded (folderSampleBase x.table) (folderSampleBase t) x.monitor }).answered f .done []))))) ∧
    (¬inRange 3 gaugeBounds → exec (.loadTableGauge f) s = .next (s.answered f .range [])) ∧
    (inRange 3 gaugeBounds → (s.gauge g).pendingLoad.isSome →
      exec (.loadTableGauge f) s = .next (s.answered f .busy [])) ∧
    (inRange 3 gaugeBounds → (s.gauge g).pendingLoad = none →
      (¬clear (.gauge g) (gaugeField g u) → exec (.loadTableGauge f) s = .next (s.answered f .overlap [])) ∧
      (clear (.gauge g) (gaugeField g u) →
        ((s.gauge g).state ≠ .idle → exec (.loadTableGauge f) s = .next
          ((s.onGauge g fun x => { x with pendingLoad := some l }).answered f .held [])) ∧
        ((s.gauge g).state = .idle → exec (.loadTableGauge f) s = .next
          ((s.onGauge g fun x =>
            { x with
              table := u, loaded := true
              monitor := monitorAfterLoad x.loaded (gaugeSampleBase x.table) (gaugeSampleBase u) x.monitor }).answered f .done []))))

/-- R173, R155, R170, R172: LOAD TABLE of the part table: range, then placement, else applied at once with DONE; the effective
command lead is computed afresh, and the status field in force, the running timer and the flags stay. -/
def Obligations.LoadTablePart : Prop :=
  ∀ (f : Frame) (s : State) (l : Load) (t : PartTable),
    s.asked f (2 + l.values.length) → runCount (slotAt f.slots 1) = l.values.length →
    bits (slotAt f.slots 1) 8 4 = 0 → bits (slotAt f.slots 1) 16 8 = l.first →
    (f.slots.drop 2).take l.values.length = l.values →
    (∀ i : Fin 4, t[i.val] =
      if l.first ≤ i.val ∧ i.val < l.first + l.values.length then slotAt l.values (i.val - l.first)
      else s.responder.table[i.val]) →
    let inRange : Prop := l.values.length ≤ 16 ∧ l.first + l.values.length ≤ 4 ∧
      ∀ i, i < l.values.length → withinBounds (partBounds (l.first + i)) (slotAt l.values i)
    let clear : Prop := ∀ o ∈ allTables, o ≠ .part → ∀ y ∈ s.fieldsOf o, conflict (statusField t) y = false
    (¬inRange → exec (.loadTablePart f) s = .next (s.answered f .range [])) ∧
    (inRange → ¬clear → exec (.loadTablePart f) s = .next (s.answered f .overlap [])) ∧
    (inRange → clear → exec (.loadTablePart f) s = .next
      (({ s with
          responder := { s.responder with table := t, loaded := true }
          port := { s.port with
            effectiveLead := max t[0].toNat (2 * (match s.port.last with | some h => h.period | none => 0)) } } :
          State).answered f .done []))

/-- R45, R122, R141, R143, R153, R109: the four rows that apply a load held pending: where nothing holds it any longer, its values
are written whole with their effect on the field's monitor, the instance is loaded, nothing is pending, and TABLE_APPLIED is taken;
else nothing changes. Between commands no field waits for its judgement. That a transition itself applies the load, so that such a
row is a bare test, is log entry 3. And what follows a release that leaves a group with no holder and an empty list: the group's
load is applied as that row applies it, or, where the plan takes the grant of this frame first (log entry 1), a grant that is made
leaves the group with its new holder and keeps the load pending. -/
def Obligations.PendingLoads : Prop :=
  (∀ s : State, s.resetLow = false → s.frame.handed = [] →
    (∀ n l, (s.stand n).pendingLoad = some l →
      (s.stand n).state ∈ [StandState.offline, .parked, .running, .loaded, .ready, .fault] →
      exec (.standTablePendingApply n) s = .next
        ((s.onStand n fun st =>
          { st with
            table := l.over st.table, loaded := true, pendingLoad := none
            monitor := monitorAfterLoad st.loaded (sampleBase st.table) (sampleBase (l.over st.table)) st.monitor }).takeEvent
          .tableApplied (some n) none none)) ∧
    (∀ n, (s.stand n).pendingLoad = none ∨
        (s.stand n).state ∉ [StandState.offline, .parked, .running, .loaded, .ready, .fault] →
      exec (.standTablePendingApply n) s = .next s) ∧
    (∀ n l, (s.path n).pendingLoad = some l → (∀ g, ∀ e ∈ (s.group g).tracker, e.stand ≠ n) →
      exec (.pathTablePendingApply n) s = .next
        ((s.onPath n fun p => { p with table := l.over p.table, loaded := true, pendingLoad := none }).takeEvent .tableApplied
          (some n) none none)) ∧
    (∀ n, (s.path n).pendingLoad = none ∨ (∃ g, ∃ e ∈ (s.group g).tracker, e.stand = n) →
      exec (.pathTablePendingApply n) s = .next s) ∧
    (∀ g l, (s.group g).pendingLoad = some l → (s.group g).holder = .none → (s.group g).tracker = [] →
      exec (.groupTablePendingApply g) s = .next
        ((s.onGroup g fun u =>
          { u with
            table := l.over u.table, loaded := true, pendingLoad := none
            monitor :=
              folderMonitorAfterLoad u.loaded (folderSampleBase u.table) (folderSampleBase (l.over u.table)) u.monitor }).takeEvent
          .tableApplied none (some (.group g)) none)) ∧
    (∀ g, (s.group g).pendingLoad = none ∨ (s.group g).holder ≠ .none ∨ (s.group g).tracker ≠ [] →
      exec (.groupTablePendingApply g) s = .next s) ∧
    (∀ g l, (s.gauge g).pendingLoad = some l → (s.gauge g).state = .idle →
      exec (.gaugeTablePendingApply g) s = .next
        ((s.onGauge g fun u =>
          { u with
            table := l.over u.table, loaded := true, pendingLoad := none
            monitor := monitorAfterLoad u.loaded (gaugeSampleBase u.table) (gaugeSampleBase (l.over u.table)) u.monitor }).takeEvent
          .tableApplied none (some (.gauge g)) none)) ∧
    ∀ g, (s.gauge g).pendingLoad = none ∨ (s.gauge g).state ≠ .idle →
      exec (.gaugeTablePendingApply g) s = .next s) ∧
  ∀ (s : State) (g : GroupNo),
    ((s.group g).pendingLoad = none ∨ (s.group g).holder ≠ .none ∨ (s.group g).tracker ≠ [] → settleReleased g s = s) ∧
    (s.resetLow = false → g ∉ s.frame.grantFirst ∨ .grant g ∉ s.frame.due →
      exec (.groupTablePendingApply g) s = .next (settleReleased g s)) ∧
    ∀ l, (s.group g).pendingLoad = some l → (s.group g).holder = .none → (s.group g).tracker = [] → g ∈ s.frame.grantFirst →
      .grant g ∈ s.frame.due →
      (s.grantee g = none → settleReleased g s = settleGroup g (s.dropDue (.grant g))) ∧
      ∀ n, s.grantee g = some n →
        let t := settleReleased g s
        t = perform (.grant g) (s.dropDue (.grant g)) ∧ (t.group g).holder = .stand n ∧ (t.group g).pendingLoad = some l ∧
          (t.group g).table = (s.group g).table ∧ .grant g ∉ t.frame.due

/-! ### Cycle frames (chapter 8) -/

/-- R147, R155, R165, R167, R148: a cycle frame whose period lies in 250 to 4000 and whose ring time is later than the last accepted
one is accepted, whatever its cycle number: what the port holds afterwards. Nothing of the frame's work changes it. -/
def Obligations.CycleFrameAccepted : Prop :=
  ∀ (f : Frame) (plan : Plan) (s : State), s.resetLow = false →
    250 ≤ f.head2.toNat → f.head2.toNat ≤ 4000 → (∀ h, s.port.last = some h → 0 < (f.head1 - h.time).toInt) →
    ∃ t, exec (.cycleFrame f plan) s = .next t ∧
      t.port.last = some ⟨f.head1, f.head0.extractLsb' 0 16, f.head2.toNat⟩ ∧ t.port.ring = .up ∧ t.port.timeBack = false ∧
      t.port.effectiveLead = max s.responder.table[0].toNat (2 * f.head2.toNat) ∧
      t.port.timer = some (s.responder.table[1].toNat * f.head2.toNat) ∧
      t.port.statusBase = s.responder.table[2].toNat ∧ t.responder.table = s.responder.table ∧
      t.nodeAddress = s.nodeAddress ∧ ∃ o, t.out = some o ∧ o.head0 = f.head0 ∧ o.head1 = f.head1 ∧ o.head2 = f.head2 ∧
        o.slots.length = f.slots.length

/-- R164, R161, R147 step 8, R101, R104, R8, R97, R116, R130, R138, R151, R156: an accepted frame hands over each input field of the
map as the frame brought it, and gives each block its work; a piece that needs an accepted sample does nothing without one, and a
stand in OFFLINE, PARKED or FAULT does nothing. The work is taken in the plan's order from the state that the acceptance leaves, and
changes nothing of the frame that leaves at OUT; no field waits for its judgement between commands; a plan that leaves nothing for
later leaves no work due; and a field that is accepted lies within the frame. A service frame that is answered, a cycle frame and an
expiry of the running ring-loss timer come after the whole work of the frame before them, never within it. That the order is an
operand is log entry 1, and that pieces may be left for the rows that name them is log entry 2. -/
def Obligations.FrameWorkTaken : Prop :=
  (∀ (f : Frame) (s : State),
    let work := (acceptFrame f s).frame
    let brings (base len : Nat) : Option (List Word) :=
      if base + len ≤ f.slots.length then some ((f.slots.drop base).take len) else none
    let inMap : InputField → Prop
      | .stand n => (s.stand n).loaded = true
      | .gauge g => (s.gauge g).loaded = true
      | .folder g => (s.group g).loaded = true
    let hasEntry (n : StandNo) : Prop := ∃ g, ∃ e ∈ (s.group g).tracker, e.stand = n
    work.fresh = [] ∧ work.moved = [] ∧ (work.recovery = true ↔ s.port.ring = .lost) ∧
    (∀ x b, (x, b) ∈ work.handed ↔ inMap x ∧ b =
      match x with
      | .stand n => brings (sampleBase (s.stand n).table) 8
      | .gauge g => brings (gaugeSampleBase (s.gauge g).table) 3
      | .folder g => brings (folderSampleBase (s.group g).table) 2) ∧
    ∀ w, w ∈ work.due ↔
      match w with
      | .judge x | .stale x => inMap x
      | .recover n | .holds n | .reject n | .clear n => hasEntry n
      | .sample _ | .deadline _ | .grant _ => True
      | .result g | .start g | .timeout g => (s.gauge g).loaded = true) ∧
  (∀ s : State,
    (∀ n, .stand n ∉ s.frame.fresh → ∀ w ∈ [Work.sample n, .holds n, .reject n, .clear n], perform w s = s) ∧
    (∀ g, .gauge g ∉ s.frame.fresh → ∀ w ∈ [Work.result g, .start g], perform w s = s) ∧
    (s.frame.recovery = false → ∀ n, perform (.recover n) s = s) ∧
    ∀ n, (s.stand n).state ∈ [StandState.offline, .parked, .fault] → ∀ w ∈ [Work.sample n, .deadline n], perform w s = s) ∧
  (∀ (f : Frame) (plan : Plan) (s : State), s.resetLow = false → s.frame.due = [] → s.accepts f = true →
    let start := (acceptFrame f s).onFrame fun w => { w with grantFirst := plan.grantFirst }
    ∃ t, exec (.cycleFrame f plan) s = .next t ∧ t.out = (acceptFrame f s).out ∧
      t = (plan.first ++ (acceptFrame f s).frame.due.filter fun w =>
        (match w with | .judge _ => true | _ => false) || decide (w ∉ plan.later)).foldl carryOut start ∧
      (plan.later = [] → t.frame.due = []) ∧
      ∀ p ∈ s.inputFields, p.field ∈ t.frame.fresh → p.base + p.len ≤ f.slots.length) ∧
  (∀ (c : Instr) (s t : State), s.frame.handed = [] → exec c s = .next t → t.frame.handed = []) ∧
  ∀ s : State, s.resetLow = false →
    (finishFrame s).frame.due = [] ∧
    (∀ c f, c.serviceFrame = some f → s.hears f → replyRoom f ≠ 0 → exec c s = exec c (finishFrame s)) ∧
    (∀ f plan, exec (.cycleFrame f plan) s = exec (.cycleFrame f plan) (finishFrame s)) ∧
    ∀ order, s.port.timer.isSome → exec (.ringLossTimerExpiry order) s = exec (.ringLossTimerExpiry order) (finishFrame s)

/-- R148, R154, R176, R189: a cycle frame that is not accepted (its period out of range, or its ring time not later than the last
accepted one) leaves with the status field alone written, where it lies within the frame, and takes TIME_BACK once a run; nothing
else changes. The record shows the state as held before that TIME_BACK (DEDUCED, log entry 10). What is still due of the last
frame's work is taken before it (log entry 2, FrameWorkTaken). -/
def Obligations.CycleFrameRefused : Prop :=
  ∀ (f : Frame) (plan : Plan) (s : State), s.resetLow = false → s.frame.due = [] →
    (f.head2.toNat < 250 ∨ 4000 < f.head2.toNat ∨ ∃ h, s.port.last = some h ∧ (f.head1 - h.time).toInt ≤ 0) →
    ∃ o, o.head0 = f.head0 ∧ o.head1 = f.head1 ∧ o.head2 = f.head2 ∧ o.slots.length = f.slots.length ∧
      (∀ i, i < s.port.statusBase ∨ s.port.statusBase + 20 ≤ i → slotAt o.slots i = slotAt f.slots i) ∧
      (f.slots.length < s.port.statusBase + 20 → o = f) ∧
      (s.port.statusBase + 20 ≤ f.slots.length → s.eventsSound → s.statusShows o.slots s.port.statusBase) ∧
      (s.port.timeBack = true → exec (.cycleFrame f plan) s = .next { s with out := some o }) ∧
      (s.port.timeBack = false → exec (.cycleFrame f plan) s = .next
        (({ s with out := some o, port := { s.port with timeBack := true } } : State).takeEvent .timeBack none none none))

/-- R147 steps 4 to 6, R148, R156, R167: the events and the indications of an acceptance before any block's work: RING_BACK with the
RING flag where the ring was LOST, then FIELD_RANGE where a field of the map does not lie within the frame and the indication was
no. The stale limits of this frame are those applied at its acceptance (R43, R162). -/
def Obligations.AcceptanceEvents : Prop :=
  ∀ (f : Frame) (s : State),
    let header (e : Event) : Prop := e.stand = none ∧ e.unit = none ∧ e.detail = none ∧ e.cycle = f.head0.extractLsb' 0 16 ∧
      e.time = f.head1
    let short : Prop :=
      f.slots.length < statusBaseEntry s.responder.table + 20 ∨
      (∃ n, (s.stand n).loaded = true ∧
        (f.slots.length < sampleBase (s.stand n).table + 8 ∨ f.slots.length < commandBase (s.stand n).table + 6)) ∨
      (∃ g, (s.gauge g).loaded = true ∧
        (f.slots.length < gaugeSampleBase (s.gauge g).table + 3 ∨ f.slots.length < gaugeCommandBase (s.gauge g).table + 2)) ∨
      (∃ g, (s.group g).loaded = true ∧
        (f.slots.length < folderSampleBase (s.group g).table + 2 ∨ f.slots.length < folderCommandBase (s.group g).table + 2)) ∨
      ∃ n c, c < checkpointCount (s.path n).table ∧ isHold (s.path n).table c = true ∧
        f.slots.length < holdSlot (s.path n).table c + 1
    s.responder.events.length ≤ 30 →
    ∃ back range, (acceptFrame f s).responder.events = s.responder.events ++ back ++ range ∧
      (s.port.ring = .up → back = []) ∧
      (s.port.ring = .lost → ∃ e, back = [e] ∧ e.kind = .ringBack ∧ header e) ∧
      (short ∧ s.port.shortFrame = false → ∃ e, range = [e] ∧ e.kind = .fieldRange ∧ header e) ∧
      (¬short ∨ s.port.shortFrame = true → range = []) ∧
      ((acceptFrame f s).port.shortFrame = true ↔ short) ∧
      (acceptFrame f s).responder.ringFlag =
        (s.responder.ringFlag || (decide (s.port.ring = .lost) && s.responder.table[3].getLsbD 5)) ∧
      (acceptFrame f s).windows = [] ∧ (acceptFrame f s).stands.toList.map (·.state) = s.stands.toList.map (·.state) ∧
      ∀ n : StandNo, (acceptFrame f s).frame.limits[n.val] = (s.stand n).table[4].toNat

/-- R176, R189, R191, R111, R154, R173: the status record that an accepted frame carries, at the base that part table entry 2 holds
and where it lies within the frame, shows the state that the acceptance leaves before any block's work: the ring condition, the
overflow flag, the EVENTS and RING flags and the events waiting; each stand's state, phase, fault code, four attention flags, auto
flag, forced mark and lock indication; and the slots 9 to 19 as 0. No other field overwrites it where the placement check holds
(R152). -/
def Obligations.StatusRecord : Prop :=
  ([StandState.offline, .parked, .running, .loaded, .ranging, .ready, .waiting, .accelerating, .pasting .cut, .fault].map
      stateCode = List.range 10 ∧
    [StandState.fault, .pasting .advance, .pasting .brush, .pasting .cut].map phaseCode = List.range 4 ∧
    [none, some FaultCode.webLost, some .driveFail, some .matchFail, some .markFail, some .setupFail, some .pasteMiss,
      some .pasteUnknown, some .knifeFail, some .ringLost].map faultItem = List.range 10) ∧
  ∀ (f : Frame) (plan : Plan) (s : State), s.resetLow = false → s.frame.due = [] → s.accepts f = true → s.placementSound →
    s.eventsSound → statusBaseEntry s.responder.table + 20 ≤ f.slots.length →
    ∃ t o, exec (.cycleFrame f plan) s = .next t ∧ t.out = some o ∧
      (acceptFrame f s).statusShows o.slots (statusBaseEntry s.responder.table)

/-- R90, R92, R115, R132, R134, R154, R188: what the command fields of an accepted frame within which they lie carry. A stand's: its
freshness counter one on, the rotation mode, the arm order and the rotation reference as prepared, and every execute time that it
carries at least the effective command lead, computed with this frame's period, later than the frame's ring time; a time not carried
and the slots 4 and 5 are 0. A gauge's: its counter one on, the order, the current stand or 15, the sequence value. A folder's: its
counter one on, the order number, the copy count. A hold slot: the largest window prepared for it, or 0. No output field is
overwritten where the placement check holds (R152). -/
def Obligations.CommandFields : Prop :=
  ∀ (f : Frame) (s : State), s.placementSound → ∃ o, (acceptFrame f s).out = some o ∧
    (∀ n : StandNo, (s.stand n).loaded → commandBase (s.stand n).table + 6 ≤ f.slots.length →
      let w i := slotAt o.slots (commandBase (s.stand n).table + i)
      let lead := max s.responder.table[0].toNat (2 * f.head2.toNat)
      bits (w 0) 0 4 = ((s.stand n).freshness + 1).toNat ∧ ((acceptFrame f s).stand n).freshness = (s.stand n).freshness + 1 ∧
      bits (w 0) 8 2 = rotationCode (s.stand n).rotation ∧ bits (w 0) 12 1 = armCode (s.stand n).arm ∧
      w 1 = BitVec.ofNat 32 (s.stand n).rotationRef ∧
      ((w 0).getLsbD 16 = true ↔ ∃ b, (s.stand n).brushAt = some b ∧ (lead : Int) ≤ (b - f.head1).toInt) ∧
      ((w 0).getLsbD 16 = true → (s.stand n).brushAt = some (w 2) ∧ (lead : Int) ≤ (w 2 - f.head1).toInt) ∧
      ((w 0).getLsbD 16 = false → w 2 = 0) ∧
      ((w 0).getLsbD 17 = true ↔ ∃ k, (s.stand n).knifeAt = some k ∧ (lead : Int) ≤ (k - f.head1).toInt) ∧
      ((w 0).getLsbD 17 = true → (s.stand n).knifeAt = some (w 3) ∧ (lead : Int) ≤ (w 3 - f.head1).toInt) ∧
      ((w 0).getLsbD 17 = false → w 3 = 0) ∧ w 4 = 0 ∧ w 5 = 0) ∧
    (∀ g : GaugeNo, (s.gauge g).loaded → gaugeCommandBase (s.gauge g).table + 2 ≤ f.slots.length →
      let w i := slotAt o.slots (gaugeCommandBase (s.gauge g).table + i)
      bits (w 0) 0 4 = ((s.gauge g).freshness + 1).toNat ∧
      bits (w 0) 8 2 = (match (s.gauge g).state with | .idle => 0 | .measuring _ _ => 1 | .cancelling _ => 2) ∧
      bits (w 1) 0 4 = (match (s.gauge g).state with | .measuring n _ => n.val | _ => 15) ∧
      bits (w 1) 16 8 = (s.gauge g).sequence.toNat) ∧
    (∀ g : GroupNo, (s.group g).loaded → folderCommandBase (s.group g).table + 2 ≤ f.slots.length →
      let w i := slotAt o.slots (folderCommandBase (s.group g).table + i)
      bits (w 0) 0 4 = ((s.group g).freshness + 1).toNat ∧ bits (w 0) 16 8 = (s.group g).orderNumber.toNat ∧
      w 1 = BitVec.ofNat 32 (s.group g).copyCount) ∧
    ∀ (n : StandNo) (c : Nat), c < checkpointCount (s.path n).table → isHold (s.path n).table c = true →
      holdSlot (s.path n).table c + 1 ≤ f.slots.length →
      ∃ x, slotAt o.slots (holdSlot (s.path n).table c) = BitVec.ofNat 32 x ∧
        (∀ y, (holdSlot (s.path n).table c, y) ∈ s.windows → y ≤ x) ∧
        (x = 0 ∨ (holdSlot (s.path n).table c, x) ∈ s.windows)

/-- R146, R154, R156, R132: a slot of an accepted frame that lies in no output field of the map that the frame reaches leaves as it
arrived; a command freshness counter advances exactly for a frame into which its field is written. -/
def Obligations.UnwrittenSlotsStay : Prop :=
  ∀ (f : Frame) (s : State), ∃ o, (acceptFrame f s).out = some o ∧
    (∀ i, (i < statusBaseEntry s.responder.table ∨ statusBaseEntry s.responder.table + 20 ≤ i ∨
          f.slots.length < statusBaseEntry s.responder.table + 20) →
      (∀ p ∈ s.commandFields, p.base + p.len ≤ f.slots.length → i < p.base ∨ p.base + p.len ≤ i) →
      slotAt o.slots i = slotAt f.slots i) ∧
    (∀ n, ((acceptFrame f s).stand n).freshness =
      if (s.stand n).loaded = true ∧ commandBase (s.stand n).table + 6 ≤ f.slots.length then (s.stand n).freshness + 1
      else (s.stand n).freshness) ∧
    (∀ g, ((acceptFrame f s).gauge g).freshness =
      if (s.gauge g).loaded = true ∧ gaugeCommandBase (s.gauge g).table + 2 ≤ f.slots.length then (s.gauge g).freshness + 1
      else (s.gauge g).freshness) ∧
    ∀ g, ((acceptFrame f s).group g).freshness =
      if (s.group g).loaded = true ∧ folderCommandBase (s.group g).table + 2 ≤ f.slots.length then (s.group g).freshness + 1
      else (s.group g).freshness

/-- R161, R153, R157, R158, R159, R160, R187, R147 step 8: the judgement of a field by what the frame brought: a new counter, or
none seen before, makes the sample accepted, with its readings, and clears the stale count and the STALE condition; on a field that
was STALE SAMPLES_FRESH is taken, naming the stand, the gauge or the group; a counter that repeats, or a field beyond the frame,
raises the stale count up to 255 and leaves the held values. A field that a load has moved earlier in the same frame's work (log
entry 2 keeps record of it) is judged by what the frame brought for it, and is then read afresh: its history becomes none, and a
folder's held value absent. Nothing else of the blocks changes. -/
def Obligations.FieldsJudged : Prop :=
  ∀ (s : State) (f : InputField) (ws : List Word), s.frame.due.contains (.judge f) →
    let t := takePiece s (.judge f)
    let moved : Prop := f ∈ s.frame.moved
    let counter : BitVec 4 := (slotAt ws 0).extractLsb' 0 4
    let brought (b : Option (List Word)) : Prop := (s.frame.handed.find? (·.1 == f)) = some (f, b)
    let repeats (history : Option (BitVec 4)) : Prop := brought (some ws) ∧ history = some counter ∨ brought none
    let fresh (stale : Bool) (n : Option StandNo) (u : Option EventUnit) : Prop := f ∈ t.frame.fresh ∧
      t.responder = if stale then (s.takeEvent .samplesFresh n u none).responder else s.responder
    (t.port = s.port ∧ t.paths = s.paths ∧ t.windows = s.windows ∧ t.out = s.out ∧
      (∀ m, f ≠ .stand m → t.stand m = s.stand m) ∧ (∀ g, f ≠ .gauge g → t.gauge g = s.gauge g) ∧
      ∀ g, f ≠ .folder g → t.group g = s.group g) ∧
    (∀ n, f = .stand n →
      let m := (s.stand n).monitor
      (brought (some ws) → m.history ≠ some counter → fresh m.stale (some n) none ∧
        ∃ v, t.stand n =
            { s.stand n with
              monitor :=
                { history := if moved then none else some counter, held := some v, staleCount := 0, stale := false } } ∧
          v.time = s.now ∧ v.webSpeed = min 25000 (bits (slotAt ws 1) 0 16) ∧ v.length = slotAt ws 2 ∧
          v.revolutions = (slotAt ws 3).extractLsb' 0 8 ∧ v.latched = slotAt ws 4 ∧
          v.angle = (slotAt ws 5).extractLsb' 0 12 ∧ v.angleOffset = min s.period (bits (slotAt ws 5) 16 16) ∧
          v.rate = bits (slotAt ws 6) 0 16 ∧ v.markCount = (slotAt ws 6).extractLsb' 16 8 ∧
          v.markAngle = (slotAt ws 7).extractLsb' 0 12 ∧ v.confirmCount = (slotAt ws 7).extractLsb' 16 8 ∧
          v.knifeCount = (slotAt ws 7).extractLsb' 24 8 ∧ v.ready = (slotAt ws 0).getLsbD 8 ∧ v.web = (slotAt ws 0).getLsbD 9 ∧
          (v.arm = .retracted ↔ bits (slotAt ws 0) 12 2 = 0) ∧ (v.arm = .pastePosition ↔ bits (slotAt ws 0) 12 2 = 2)) ∧
      (repeats m.history → t.responder = s.responder ∧ t.frame.fresh = s.frame.fresh ∧
        t.stand n =
          { s.stand n with
            monitor := { m with history := if moved then none else m.history, staleCount := min 255 (m.staleCount + 1) } })) ∧
    (∀ g, f = .gauge g →
      let m := (s.gauge g).monitor
      (brought (some ws) → m.history ≠ some counter → fresh m.stale none (some (.gauge g)) ∧
        t.gauge g =
          { s.gauge g with
            monitor :=
              { history := if moved then none else some counter, staleCount := 0, stale := false
                held := some
                  { busy := (slotAt ws 0).getLsbD 8, completed := (slotAt ws 1).extractLsb' 0 8
                    valid := (slotAt ws 0).getLsbD 9, distance := bits (slotAt ws 2) 0 16 } } }) ∧
      (repeats m.history → t.responder = s.responder ∧ t.frame.fresh = s.frame.fresh ∧
        t.gauge g =
          { s.gauge g with
            monitor := { m with history := if moved then none else m.history, staleCount := min 255 (m.staleCount + 1) } })) ∧
    ∀ g, f = .folder g →
      let m := (s.group g).monitor
      (brought (some ws) → m.history ≠ some counter → fresh m.stale none (some (.group g)) ∧
        t.group g =
          { s.group g with
            monitor :=
              { history := if moved then none else some counter, staleCount := 0, stale := false
                held := if moved then none else some (bits (slotAt ws 1) 0 8) } }) ∧
      (repeats m.history → t.responder = s.responder ∧ t.frame.fresh = s.frame.fresh ∧
        t.group g =
          { s.group g with
            monitor :=
              { m with
                history := if moved then none else m.history, held := if moved then none else m.held
                staleCount := min 255 (m.staleCount + 1) } })

/-- R162, R43, R177: SAMPLES_STALE: a field that repeated at this frame, with a stale count above its limit and the condition clear,
becomes STALE, with the event; a stand's limit is entry 4 as applied when the frame was accepted (AcceptanceEvents); a stand's
attention flag is set where the mask admits it. -/
def Obligations.SamplesStale : Prop :=
  ∀ s : State,
    (∀ n, s.nextIs (.stale (.stand n)) → .stand n ∉ s.frame.fresh → (s.stand n).monitor.stale = false →
      s.frame.limits[n.val] < (s.stand n).monitor.staleCount →
      ∃ t, exec (.samplesStale (.stand n)) s = .next t ∧
        t = { ((s.dropDue (.stale (.stand n))).onStand n fun st => { st with monitor := { st.monitor with stale := true } }) with
              responder := t.responder } ∧
        t.responder =
          let r := (s.takeEvent .samplesStale (some n) none none).responder
          if s.responder.table[3].getLsbD 3 then
            { r with flags := r.flags.set n.val { r.flags[n.val] with stale := true } }
          else r) ∧
    (∀ g, s.nextIs (.stale (.gauge g)) → .gauge g ∉ s.frame.fresh → (s.gauge g).monitor.stale = false →
      3 < (s.gauge g).monitor.staleCount →
      exec (.samplesStale (.gauge g)) s = .next
        (((s.dropDue (.stale (.gauge g))).onGauge g fun u => { u with monitor := { u.monitor with stale := true } }).takeEvent
          .samplesStale none (some (.gauge g)) none)) ∧
    ∀ g, s.nextIs (.stale (.folder g)) → .folder g ∉ s.frame.fresh → (s.group g).monitor.stale = false →
      3 < (s.group g).monitor.staleCount →
      exec (.samplesStale (.folder g)) s = .next
        (((s.dropDue (.stale (.folder g))).onGroup g fun u => { u with monitor := { u.monitor with stale := true } }).takeEvent
          .samplesStale none (some (.group g)) none)

/-- R165, R166, R31, R106, R107, R121, R137: RING_LOSS_TIMER_EXPIRY with the ring UP: the timer stops, the ring is LOST, and in
whatever order the owners act (R166 leaves it open; it is an operand, log entry 9) every stand and gauge goes where its rule says; a
stand holder gives its lock back and a holding entry keeps it; tracker lists, hold conditions and records stay. A stopped timer does
not expire (the expiry is a command, log entry 8), and an expiry with the ring LOST, which no run reaches (log entry 17), only stops
the timer. -/
def Obligations.RingLoss : Prop :=
  ∀ (order : List LossOwner) (s : State), s.resetLow = false → s.frame.due = [] →
    (s.port.timer = none → exec (.ringLossTimerExpiry order) s = .next s) ∧
    (s.port.timer.isSome → s.port.ring = .lost →
      exec (.ringLossTimerExpiry order) s = .next { s with port := { s.port with timer := none } }) ∧
    (s.port.timer.isSome → s.port.ring = .up → s.Sound →
      ∃ t, exec (.ringLossTimerExpiry order) s = .next t ∧ t.port = { s.port with timer := none, ring := .lost } ∧
        t.out = s.out ∧ t.windows = s.windows ∧
        (s.responder.events.length < 32 →
          ∃ e rest, t.responder.events = s.responder.events ++ e :: rest ∧ e.kind = .ringLost ∧ e.stand = none) ∧
        (∀ n,
          ((s.stand n).state = .waiting → (t.stand n).state = .ready ∧ (t.stand n).urgent = false ∧
            (t.stand n).forced = false) ∧
          ((s.stand n).state ∈ [StandState.accelerating, .pasting .advance] →
            (t.stand n).state = .fault ∧ (t.stand n).faultCode = some .ringLost ∧ (t.stand n).rotation = .brake) ∧
          ((s.stand n).state = .pasting .brush →
            (t.stand n).state = .fault ∧ (t.stand n).faultCode = some .pasteUnknown ∧ (t.stand n).rotation = .brake) ∧
          ((s.stand n).state = .pasting .cut →
            (t.stand n).state = .fault ∧ (t.stand n).faultCode = some .knifeFail ∧ (t.stand n).rotation = .hold) ∧
          (∀ g, (s.gauge g).measures n → (t.stand n).state = .loaded) ∧
          ((s.stand n).state = .ranging → (∀ g, (s.gauge g).measures n = false) → t.stand n = s.stand n) ∧
          ((s.stand n).state ∈ [StandState.offline, .parked, .running, .loaded, .ready, .fault] → t.stand n = s.stand n) ∧
          (t.stand n).newReel = (s.stand n).newReel ∧ (t.stand n).expiring = (s.stand n).expiring) ∧
        ∀ g, (t.gauge g).queue = (s.gauge g).queue ∧ (t.group g).tracker = (s.group g).tracker ∧
          (t.group g).holder = (match (s.group g).holder with | .entry n => .entry n | _ => .none) ∧
          (t.group g).held = (s.group g).held ∧ (∀ n : StandNo, (t.group g).waiting[n.val] = false) ∧
          (t.gauge g).state = (match (s.gauge g).state with | .measuring _ _ => .idle | x => x))

/-! ### The Reel Arithmetic (chapter 3 and stages E to F of chapter 4) -/

/-- R50, R51, R52, R53, R56, R58: one step of diameter tracking, stages A, B and C in order, on a record and an accepted sample. -/
def Obligations.DiameterTracking : Prop :=
  ∀ (r : ExpiringReel) (core ds : Nat) (v : StandSample),
    let t := trackReel r core ds v
    let k := (v.revolutions - r.lastRevolution).toNat
    let before := r.estimate.map (·.diameter)
    let after := t.estimate.map (·.diameter)
    let candidate := min 15000 ((2 * ((v.latched - r.lastLatched).toNat / k) * 113 + 355) / 710)
    (t.ident = r.ident ∧ t.caliper = r.caliper ∧ t.origin = r.origin ∧ t.lowReported = r.lowReported) ∧
    (k = 0 → after = before ∧ t.lastRevolution = r.lastRevolution ∧ t.lastLatched = r.lastLatched) ∧
    (k ≠ 0 → t.lastRevolution = v.revolutions ∧ t.lastLatched = v.latched ∧
      (before = none → after = if core < candidate then some candidate else none) ∧
      ∀ e, before = some e → after = if candidate ≤ e + 50 then some candidate else some e) ∧
    (∀ e, t.estimate = some e →
      e.length = (if e.diameter ≤ ds then 0 else 8875 * (e.diameter ^ 2 - ds ^ 2) / (113 * r.caliper)) ∧
      e.time = (if v.webSpeed = 0 then .unbounded else .ms (min 4294967295 (e.length * 100 / v.webSpeed)))) ∧
    ((∀ e, r.estimate = some e → e.diameter ≤ 15000) → ∀ e, t.estimate = some e →
      e.diameter ≤ 15000 ∧ ∀ b, before = some b → e.diameter ≤ b + 50)

/-- R78, R79, R80: the paste instant of a sample: the tape's angle to travel, the arrival and the revolution time rounded down, the
brush time one latency before the contact time, and both moved on by the same number of whole revolutions, the least one that brings
the brush time to the execute floor, in the signed reading of ring times. -/
def Obligations.PasteInstantPlacement : Prop :=
  ∀ (mark : BitVec 12) (offset : Int) (angle latency : Nat) (v : StandSample) (floor : BitVec 32),
    1000 ≤ v.rate → v.rate ≤ 65535 →
    let p := pasteInstant mark offset angle latency v floor
    let travel := (mark + BitVec.ofInt 12 offset - BitVec.ofNat 12 angle - v.angle).toNat
    let turn := 10 ^ 9 / v.rate
    let first := v.time + BitVec.ofNat 32 v.angleOffset + BitVec.ofNat 32 (travel * 10 ^ 9 / (4096 * v.rate))
    let brush (m : Nat) := first - BitVec.ofNat 32 (1000 * latency) + BitVec.ofNat 32 (m * turn)
    ∃ m : Nat, p.1 = first + BitVec.ofNat 32 (m * turn) ∧ p.2 = brush m ∧ 0 ≤ (p.2 - floor).toInt ∧
      ∀ k, k < m → (brush k - floor).toInt < 0

/-! ### The stand sequencer's rows (chapters 1, 4 and 5) -/

/-- R21, R22, R49, R60 to R63: AUTOMATIC_TRIGGER: an accepted sample of a READY stand with the web present. With the auto flag on,
the held speed at least the minimum, no tracker entry, and a remaining time no greater than the lead, the stand enters WAITING,
unmarked, and joins the waiting set of its group. With the auto flag off, the speed below the minimum, a tracker entry, or a
remaining time that is absent, UNBOUNDED or above the lead, it stays in READY, and nothing but its tracking is done. -/
def Obligations.AutomaticTrigger : Prop :=
  ∀ (s : State) (n : StandNo) (v : StandSample), .stand n ∈ s.frame.fresh → (s.stand n).monitor.held = some v →
    (s.stand n).state = .ready → v.web = true →
    let t := (s.stand n).table
    let after : Option Estimate :=
      (s.stand n).expiring.bind fun r => (trackReel r (coreDiameter t) (spliceDiameter t) v).estimate
    let lead (d : MeasuredDiameter) : Nat :=
      (v.webSpeed * 1000 + acceleration t - 1) / acceleration t + settleTime t + setupTime t
        + (35500 * d.value + 113 * v.webSpeed - 1) / (113 * v.webSpeed) + (s.port.effectiveLead + 999) / 1000
    let hasEntry : Prop := ∃ g, ∃ x ∈ (s.group g).tracker, x.stand = n
    (∀ q d e ms, s.nextIs (.sample n) → (s.stand n).newReel = some q → q.diameter = some d → (s.stand n).auto = true →
      minimumSpeed t ≤ v.webSpeed → ¬hasEntry → after = some e → e.time = .ms ms → ms ≤ lead d →
      exec (.automaticTrigger n) s = .next
        ((((s.dropDue (.sample n)).reelTracked n v).onStand n fun st =>
          { st with state := .waiting, urgent := false, forced := false }).onGroup (s.groupOf n) fun g =>
          { g with waiting := g.waiting.set n.val true })) ∧
    ((s.stand n).auto = false ∨ v.webSpeed < minimumSpeed t ∨ hasEntry ∨ after = none ∨
        (∃ e, after = some e ∧ e.time = .unbounded) ∨
        (∃ q d e ms, (s.stand n).newReel = some q ∧ q.diameter = some d ∧ after = some e ∧ e.time = .ms ms ∧ lead d < ms) →
      perform (.sample n) s = s.reelTracked n v)

/-- R97, R98, R99, R102, R25, R59, R68, R70: LOCK_GRANT: an OPEN group with no holder: the eligible stand with the smallest key, the
lowest number among equals, leaves the waiting set, becomes the holder with LOCK_GRANTED, and enters ACCELERATING unmarked with a
fresh paste schedule. An unmarked stand whose remaining time is 0 ms has the key of an urgent one, so that the lower number goes
first, as R98 says and not R102 (DESIGN CHOICE, log entry 20). With HELD, a holder, or no eligible stand, no grant is made, and the
row, which names a grant, changes nothing: the consideration stays due (DESIGN CHOICE, log entry 2). -/
def Obligations.LockGrant : Prop :=
  ∀ (s : State) (g : GroupNo), s.nextIs (.grant g) →
    let eligible (m : StandNo) : Prop := (s.group g).waiting[m.val] = true ∧
      (∃ v, (s.stand m).monitor.held = some v ∧ minimumSpeed (s.stand m).table ≤ v.webSpeed) ∧
      ∀ h, ∀ x ∈ (s.group h).tracker, x.stand ≠ m
    let key (m : StandNo) : Option Nat :=
      if (s.stand m).urgent then some 0
      else match (s.stand m).expiring.bind (·.estimate) with
        | some ⟨_, _, .ms t⟩ => some t
        | _ => none
    let before (m k : StandNo) : Prop :=
      (∃ a, key m = some a ∧ ∀ b, key k = some b → a < b ∨ a = b ∧ m < k) ∨ key m = none ∧ key k = none ∧ m < k
    ((s.group g).held = true ∨ (s.group g).holder ≠ .none ∨ (∀ m, ¬eligible m) → exec (.lockGrant g) s = .next s) ∧
    ∀ n v, (s.stand n).monitor.held = some v → ∀ q, (s.stand n).newReel = some q → ∀ d, q.diameter = some d →
      (s.group g).held = false → (s.group g).holder = .none → eligible n → (∀ m, eligible m → m ≠ n → before n m) →
      exec (.lockGrant g) s = .next
        ((((s.dropDue (.grant g)).onGroup g fun u =>
            { u with waiting := u.waiting.set n.val false, holder := .stand n }).takeEvent .lockGranted (some n)
            (some (.group g)) none).onStand n fun st =>
          { st with
            state := .accelerating, urgent := false, forced := false, newReel := some { q with mark := none }
            rotation := .accel
            rotationRef := referenceAt st.table d v
            schedule := some
              { matchCount := 0, markCount := 0, lastMark := none, markReference := v.markCount
                matchDeadline := s.now + BitVec.ofNat 32 (1000 *
                  ((v.webSpeed * 1000 + acceleration st.table - 1) / acceleration st.table + settleTime st.table
                    + matchAllowance st.table))
                advanceDeadline := none, contactTime := none, brushTime := none, confirmDeadline := none
                confirmReference := none, knifeTime := none, knifeReference := none } })

/-- R23, R24, R25, R49, R96, R103: FORCED_START: an accepted sample of a WAITING stand with the web present, the held speed at least
the minimum and no tracker entry, whose forced mark is set, or is set by this sample with SPLICE_FORCED (its remaining length at or
below the forced margin and the lock not its own): it leaves the waiting set and enters ACCELERATING with the forced mark; no lock
changes. With the held speed below the minimum such a sample sets the forced mark, with SPLICE_FORCED, and the stand goes on
waiting. A remaining length that is absent or above the margin, or a tracker entry, sets no mark; a marked stand with an entry, or
with the speed below the minimum, does not start: nothing but its tracking is done. -/
def Obligations.ForcedStart : Prop :=
  (∀ (s : State) (n : StandNo) (v : StandSample) (q : NewReel) (d : MeasuredDiameter) (r : ExpiringReel),
    s.nextIs (.sample n) → .stand n ∈ s.frame.fresh → (s.stand n).monitor.held = some v → (s.stand n).state = .waiting →
    (s.stand n).newReel = some q → q.diameter = some d → v.web = true →
    minimumSpeed (s.stand n).table ≤ v.webSpeed → (∀ g, ∀ x ∈ (s.group g).tracker, x.stand ≠ n) →
    (s.stand n).expiring = some r →
    let t := (s.stand n).table
    let r' := trackReel r (coreDiameter t) (spliceDiameter t) v
    let start (u : State) : State :=
      (u.onGroup (s.groupOf n) fun g => { g with waiting := g.waiting.set n.val false }).onStand n fun st =>
        { st with
          expiring := some r', state := .accelerating, urgent := false, forced := true
          newReel := some { q with mark := none }, rotation := .accel
          rotationRef := referenceAt t d v
          schedule := some
            { matchCount := 0, markCount := 0, lastMark := none, markReference := v.markCount
              matchDeadline := s.now + BitVec.ofNat 32 (1000 *
                ((v.webSpeed * 1000 + acceleration t - 1) / acceleration t + settleTime t + matchAllowance t))
              advanceDeadline := none, contactTime := none, brushTime := none, confirmDeadline := none
              confirmReference := none, knifeTime := none, knifeReference := none } }
    ((s.stand n).forced = true → exec (.forcedStart n) s = .next (start (s.dropDue (.sample n)))) ∧
    ∀ e, r'.estimate = some e → e.length ≤ t[8].toNat * 10000 → (s.stand n).forced = false →
      (s.group (s.groupOf n)).holder ≠ .stand n →
      exec (.forcedStart n) s = .next (start ((s.dropDue (.sample n)).takeEvent .spliceForced (some n) none none))) ∧
  (∀ (s : State) (n : StandNo) (v : StandSample) (r : ExpiringReel) (e : Estimate),
    .stand n ∈ s.frame.fresh → (s.stand n).monitor.held = some v → (s.stand n).state = .waiting → v.web = true →
    v.webSpeed < minimumSpeed (s.stand n).table → (∀ g, ∀ x ∈ (s.group g).tracker, x.stand ≠ n) →
    (s.stand n).expiring = some r → (s.stand n).forced = false → (s.group (s.groupOf n)).holder ≠ .stand n →
    let t := (s.stand n).table
    let r' := trackReel r (coreDiameter t) (spliceDiameter t) v
    r'.estimate = some e → e.length ≤ t[8].toNat * 10000 →
    perform (.sample n) s =
      (s.onStand n fun st => { st with expiring := some r', forced := true }).takeEvent .spliceForced (some n) none none) ∧
  ∀ (s : State) (n : StandNo) (v : StandSample),
    .stand n ∈ s.frame.fresh → (s.stand n).monitor.held = some v → (s.stand n).state = .waiting → v.web = true →
    let t := (s.stand n).table
    let after : Option Estimate :=
      (s.stand n).expiring.bind fun r => (trackReel r (coreDiameter t) (spliceDiameter t) v).estimate
    let hasEntry : Prop := ∃ g, ∃ x ∈ (s.group g).tracker, x.stand = n
    ((s.stand n).forced = false →
      after = none ∨ (∃ e, after = some e ∧ t[8].toNat * 10000 < e.length) ∨
        (s.group (s.groupOf n)).holder = .stand n ∨ hasEntry →
      perform (.sample n) s = s.reelTracked n v) ∧
    ((s.stand n).forced = true → v.webSpeed < minimumSpeed t ∨ hasEntry → perform (.sample n) s = s.reelTracked n v)

/-- R26, R70, R72, R73, R74, R75, R69: PASTING_ADVANCE_ENTRY: an accepted sample in ACCELERATING with web, drive and speed in order.
A matched sample raises the match count, up to 16, and an unmatched one sets it to 0. A latch after the mark is learned is ignored;
before, a latch that agrees with the last one is learned as the mark angle, and a first or disagreeing one below the mark limit
becomes the last mark angle; each such latch raises the mark count, and the mark reference follows every latch. With the match count
at entry 14 and the mark learned the stand enters ADVANCE; else it stays in ACCELERATING. -/
def Obligations.PastingAdvanceEntry : Prop :=
  ∀ (s : State) (n : StandNo) (v : StandSample) (q : NewReel) (d : MeasuredDiameter) (p : PasteSchedule),
    .stand n ∈ s.frame.fresh → (s.stand n).monitor.held = some v → (s.stand n).state = .accelerating →
    (s.stand n).newReel = some q → q.diameter = some d → (s.stand n).schedule = some p →
    v.web = true → v.ready = true → minimumSpeed (s.stand n).table ≤ v.webSpeed →
    let t := (s.stand n).table
    let ref := referenceAt t d v
    let count := if ((v.rate : Int) - ref).natAbs ≤ ref * speedTolerance t / 10000 then min 16 (p.matchCount + 1) else 0
    let latch : Prop := v.markCount ≠ p.markReference
    let agrees (a : BitVec 12) : Prop := min (v.markAngle - a).toNat (4096 - (v.markAngle - a).toNat) ≤ t[15].toNat
    let handled (mark : Option (BitVec 12)) (marks : Nat) (last : Option (BitVec 12)) (u : State) : State :=
      (u.referred n v d).onStand n fun st =>
        { st with
          newReel := some { q with mark := mark }
          schedule := some { p with matchCount := count, markCount := marks, lastMark := last, markReference := v.markCount } }
    let enter (u : State) : State := u.onStand n fun st =>
      { st with
        state := .pasting .advance, arm := .advance
        schedule := st.schedule.map fun x =>
          { x with advanceDeadline := some (s.now + BitVec.ofNat 32 (1000 * setupTime t)) } }
    (s.nextIs (.sample n) → t[14].toNat ≤ count →
      (∀ a, q.mark = some a → exec (.pastingAdvanceEntry n) s = .next
        (enter (handled (some a) p.markCount p.lastMark (s.dropDue (.sample n))))) ∧
      ∀ a, p.lastMark = some a → q.mark = none → latch → agrees a → exec (.pastingAdvanceEntry n) s = .next
        (enter (handled (some v.markAngle) (p.markCount + 1) p.lastMark (s.dropDue (.sample n))))) ∧
    (∀ a, q.mark = some a → count < t[14].toNat → perform (.sample n) s = handled (some a) p.markCount p.lastMark s) ∧
    (q.mark = none → ¬latch → perform (.sample n) s = handled none p.markCount p.lastMark s) ∧
    (∀ a, p.lastMark = some a → q.mark = none → latch → agrees a → count < t[14].toNat →
      perform (.sample n) s = handled (some v.markAngle) (p.markCount + 1) p.lastMark s) ∧
    (q.mark = none → latch → (∀ a, p.lastMark = some a → ¬agrees a) → p.markCount + 1 < markLimit t →
      perform (.sample n) s = handled none (p.markCount + 1) (some v.markAngle) s)

/-- R76, R81, R80, R49, R70: PASTE_INSTANT: an accepted sample in ADVANCE with the web present. With the arm at its paste position
and a rate of at least 1000 the schedule takes the times of stage F over the execute floor, and the stand enters BRUSH; with the arm
elsewhere or a lower rate it stays in ADVANCE, and nothing but its tracking and its rotation reference is done. -/
def Obligations.PasteInstant : Prop :=
  ∀ (s : State) (n : StandNo) (v : StandSample) (q : NewReel) (d : MeasuredDiameter),
    .stand n ∈ s.frame.fresh → (s.stand n).monitor.held = some v → (s.stand n).state = .pasting .advance →
    (s.stand n).newReel = some q → q.diameter = some d → v.web = true →
    let t := (s.stand n).table
    (∀ m p, s.nextIs (.sample n) → q.mark = some m → (s.stand n).schedule = some p → v.arm = .pastePosition → 1000 ≤ v.rate →
      let floor := s.now + BitVec.ofNat 32 (2 * s.period + s.port.effectiveLead)
      let i := pasteInstant m (pasteOffset t) (brushAngle t) (brushLatency t) v floor
      exec (.pasteInstant n) s = .next
        (((s.dropDue (.sample n)).referred n v d).onStand n fun st =>
          { st with
            state := .pasting .brush, brushAt := some i.2
            schedule := some
              { p with
                contactTime := some i.1, brushTime := some i.2
                confirmDeadline := some (i.1 + BitVec.ofNat 32 (t[21].toNat * (10 ^ 9 / v.rate)))
                confirmReference := some v.confirmCount } })) ∧
    (v.arm ≠ .pastePosition ∨ v.rate < 1000 → perform (.sample n) s = s.referred n v d)

/-- R82, R69, R85, R86, R105, R127, R128, R49, R70: PASTE_CONFIRM: an accepted sample in BRUSH with the web present. With an
increase of the confirm count the tracker entry is appended to the list of the stand's group, takes over the lock where the stand
held it, and the stand enters CUT with the knife time, the later of the paste point's arrival at the knife and the execute floor,
the references at the sample's counts; no event is taken. Without an increase the stand stays in BRUSH, and nothing but its tracking
and its rotation reference is done. -/
def Obligations.PasteConfirm : Prop :=
  ∀ (s : State) (n : StandNo) (v : StandSample) (q : NewReel) (d : MeasuredDiameter) (p : PasteSchedule) (k : BitVec 8),
    .stand n ∈ s.frame.fresh → (s.stand n).monitor.held = some v → (s.stand n).state = .pasting .brush →
    (s.stand n).newReel = some q → q.diameter = some d → (s.stand n).schedule = some p → p.confirmReference = some k →
    v.web = true →
    let t := (s.stand n).table
    (∀ contact, s.nextIs (.sample n) → p.contactTime = some contact → v.confirmCount ≠ k →
      let floor := s.now + BitVec.ofNat 32 (2 * s.period + s.port.effectiveLead)
      let first := contact + BitVec.ofNat 32 (t[22].toNat * 100000 / max 1 v.webSpeed)
      let knife := if 0 < (floor - first).toInt then floor else first
      exec (.pasteConfirm n) s = .next
        ((((s.dropDue (.sample n)).referred n v d).onGroup (s.groupOf n) fun g =>
          { g with
            tracker := g.tracker ++
              [{ stand := n, ident := q.ident, contactTime := contact
                 contactLength := v.length + BitVec.ofInt 32 ((v.webSpeed * (contact - v.time).toInt).tdiv 100000)
                 forced := (s.stand n).forced, holdsLock := decide (g.holder = .stand n), next := 0, rejectIssued := false
                 copies := none }]
            holder := if g.holder = .stand n then .entry n else g.holder }).onStand n fun st =>
          { st with
            state := .pasting .cut, forced := false, brushAt := none, knifeAt := some knife
            schedule := some
              { p with
                confirmReference := some v.confirmCount, knifeTime := some knife, knifeReference := some v.knifeCount } })) ∧
    (v.confirmCount = k → perform (.sample n) s = s.referred n v d)

/-- R87, R36, R33, R45, R49, R70: SPLICE_COMPLETION: an accepted sample in CUT with the web present. With an increase of the knife
count the pasted reel is the expiring reel, the stand is in RUNNING under HOLD with SPLICE_DONE and its flag, and then a pending
load is applied. Without an increase the stand stays in CUT, and nothing but its tracking and its rotation reference is done. -/
def Obligations.SpliceCompletion : Prop :=
  ∀ (s : State) (n : StandNo) (v : StandSample) (q : NewReel) (p : PasteSchedule) (k : BitVec 8),
    .stand n ∈ s.frame.fresh → (s.stand n).monitor.held = some v → (s.stand n).state = .pasting .cut →
    (s.stand n).newReel = some q → (s.stand n).schedule = some p → p.knifeReference = some k → v.web = true →
    (s.nextIs (.sample n) → v.knifeCount ≠ k →
      let done := ((s.dropDue (.sample n)).onStand n fun st =>
        { st with
          expiring := some
            { ident := q.ident, caliper := q.caliper, origin := .spliced, estimate := none, lastRevolution := v.revolutions
              lastLatched := v.latched, lowReported := false }
          newReel := none, rotation := .hold, rotationRef := 0, arm := .retract, brushAt := none, knifeAt := none
          schedule := none, state := .running }).takeEvent .spliceDone (some n) none none
      exec (.spliceCompletion n) s = .next
        (settleStand n
          (if s.responder.table[3].getLsbD 1 then
            done.onResponder fun r => { r with flags := r.flags.set n.val { r.flags[n.val] with spliceDone := true } }
          else done))) ∧
    ∀ d, q.diameter = some d → v.knifeCount = k → perform (.sample n) s = s.referred n v d

/-- R29, R26, R77, R83, R88, R8, R5, R45, R106, R107, R177: MATCH_DEADLINE, ADVANCE_DEADLINE, CONFIRM_DEADLINE and KNIFE_TIMEOUT:
the deadline of the state and phase that the stand is in, reached at now: the stand enters FAULT with the rule's code: the fault
event, the attention flag, the lock's release with its event, the stand's items, its pending load with TABLE_APPLIED, and nothing
else (State.faulted); last, a pending group-table load is settled (PendingLoads): the stand's before the group's (DEDUCED, log entry
12). A stand in these states is in no waiting set (locksSound). A deadline that is not reached changes nothing: the row names the
fault, and the test stays due (DESIGN CHOICE, log entry 2). -/
def Obligations.DeadlinesFault : Prop :=
  ∀ (s : State) (n : StandNo) (p : PasteSchedule), s.nextIs (.deadline n) → (s.stand n).schedule = some p →
    (s.group (s.groupOf n)).waiting[n.val] = false →
    let reaches (d : BitVec 32) : Prop := 0 ≤ (s.now - d).toInt
    let faults (c : FaultCode) (row : Instr) : Prop :=
      exec row s = .next (settleReleased (s.groupOf n) ((s.dropDue (.deadline n)).faulted n c))
    ((s.stand n).state = .accelerating →
      (reaches p.matchDeadline → faults .matchFail (.matchDeadline n)) ∧
      (¬reaches p.matchDeadline → exec (.matchDeadline n) s = .next s)) ∧
    (∀ d, p.advanceDeadline = some d → (s.stand n).state = .pasting .advance →
      (reaches d → faults .setupFail (.advanceDeadline n)) ∧
      (¬reaches d → exec (.advanceDeadline n) s = .next s)) ∧
    (∀ d, p.confirmDeadline = some d → (s.stand n).state = .pasting .brush →
      (reaches d → faults (if (s.stand n).monitor.stale then .pasteUnknown else .pasteMiss) (.confirmDeadline n)) ∧
      (¬reaches d → exec (.confirmDeadline n) s = .next s)) ∧
    ∀ k, p.knifeTime = some k → (s.stand n).state = .pasting .cut →
      (reaches (k + BitVec.ofNat 32 (1000 * knifeTimeoutEntry (s.stand n).table)) → faults .knifeFail (.knifeTimeout n)) ∧
      (¬reaches (k + BitVec.ofNat 32 (1000 * knifeTimeoutEntry (s.stand n).table)) → exec (.knifeTimeout n) s = .next s)

/-- R26, R28, R29, R73, R74, R76, R82, R87, R107, R45, R177: the faults at an accepted sample, after tracking: WEB_LOST in
ACCELERATING and in each phase of PASTING; DRIVE_FAIL in ACCELERATING with the web present and the drive not ready; MARK_FAIL in
ACCELERATING at a latch that does not agree with the last one and brings the mark count to the mark limit. What the entry to FAULT
leaves, after the tracking, is as for a deadline (State.faulted), the stand's pending load applied before the group's (DEDUCED, log
entry 12). -/
def Obligations.SampleFaults : Prop :=
  ∀ (s : State) (n : StandNo) (v : StandSample), .stand n ∈ s.frame.fresh → (s.stand n).monitor.held = some v →
    let st := s.stand n
    let t := st.table
    let faults (c : FaultCode) : Prop :=
      perform (.sample n) s = settleReleased (s.groupOf n) ((s.reelTracked n v).faulted n c)
    (st.state ∈ [StandState.accelerating, .pasting .advance, .pasting .brush, .pasting .cut] → v.web = false →
      faults .webLost) ∧
    (st.state = .accelerating → v.web = true → v.ready = false → faults .driveFail) ∧
    ∀ p q, st.state = .accelerating → v.web = true → v.ready = true → minimumSpeed t ≤ v.webSpeed →
      st.schedule = some p → st.newReel = some q → q.mark = none → v.markCount ≠ p.markReference →
      (∀ a, p.lastMark = some a → t[15].toNat < min (v.markAngle - a).toNat (4096 - (v.markAngle - a).toNat)) →
      markLimit t ≤ p.markCount + 1 → faults .markFail

/-- R28, R27, R39, R55, R5, R114, R120: what an accepted sample does outside the splice's own course, after tracking: REEL_LOW once
for a reel at or below the forced margin in RUNNING, LOADED and RANGING; WEB_LOST in the five states that feed without splicing, a
RANGING stand leaving its gauge and a WAITING stand its waiting set, REEL_LOW of the same sample before it (DEDUCED, log entry 11);
and the speed abort in ACCELERATING, the stand's pending load before the group's (DEDUCED, log entry 12). -/
def Obligations.SampleExits : Prop :=
  ∀ (s : State) (n : StandNo) (v : StandSample), .stand n ∈ s.frame.fresh → (s.stand n).monitor.held = some v →
    let t := (s.stand n).table
    let tracked := s.reelTracked n v
    let low (r : ExpiringReel) (e : Estimate) : Prop := (s.stand n).expiring = some r ∧ r.lowReported = false ∧
      (trackReel r (coreDiameter t) (spliceDiameter t) v).estimate = some e ∧ e.length ≤ t[8].toNat * 10000
    let reported (r : ExpiringReel) (e : Estimate) : State := (s.onStand n fun st =>
      { st with expiring := some { trackReel r (coreDiameter t) (spliceDiameter t) v with lowReported := true } }).takeEvent
        .reelLow (some n) none (some e.diameter)
    let lost (u : State) : State :=
      settleStand n ((u.onStand n fun st => { st with state := .parked }).takeEvent .webLost (some n) none none)
    let left (g : GaugeNo) (u : State) : State := u.onGauge g fun x =>
      if x.measures n then { x with state := .cancelling (s.now + BitVec.ofNat 32 (1000 * measureTimeout x.table)) }
      else { x with queue := x.queue.filter (· != n) }
    ((s.stand n).state ∈ [StandState.running, .loaded, .ranging] → v.web = true →
      ((∀ r e, ¬low r e) → perform (.sample n) s = tracked) ∧ ∀ r e, low r e → perform (.sample n) s = reported r e) ∧
    ((s.stand n).state ∈ [StandState.running, .loaded] → v.web = false →
      ((∀ r e, ¬low r e) → perform (.sample n) s = lost tracked) ∧
      ∀ r e, low r e → perform (.sample n) s = lost (reported r e)) ∧
    (∀ g, (s.stand n).state = .ranging → gaugeEntry t = some g → v.web = false →
      ((∀ r e, ¬low r e) → perform (.sample n) s = lost (left g tracked)) ∧
      ∀ r e, low r e → perform (.sample n) s = lost (left g (reported r e))) ∧
    ((s.stand n).state = .ready → v.web = false → perform (.sample n) s = lost tracked) ∧
    ((s.stand n).state = .waiting → v.web = false →
      perform (.sample n) s =
        lost ((tracked.onGroup (s.groupOf n) fun g => { g with waiting := g.waiting.set n.val false }).onStand n fun st =>
          { st with urgent := false, forced := false })) ∧
    ((s.stand n).state = .accelerating → v.web = true → v.ready = true → v.webSpeed < minimumSpeed t →
      let released :=
        if (s.group (s.groupOf n)).holder = .stand n then
          (tracked.onGroup (s.groupOf n) fun g => { g with holder := .none }).takeEvent .lockReleased (some n)
            (some (.group (s.groupOf n))) none
        else tracked
      perform (.sample n) s = settleReleased (s.groupOf n) (settleStand n
        ((released.onStand n fun st =>
          { st with
            state := .ready, forced := false, rotation := .brake, rotationRef := 0, schedule := none, brushAt := none
            knifeAt := none }).takeEvent .speedAbort (some n) none none)))

/-! ### The gauges' rows (chapter 6) -/

/-- R116, R117, R118, R119, R120, R45, R122: the gauge's rows. GAUGE_MEASURE_START, GAUGE_RESULT and GAUGE_CANCEL_END at an accepted
sample of the gauge: the head stand measured under the next sequence value, or nothing with busy = yes or an empty queue; the result
of the measured stand accepted or refused by its core diameter; the end of a cancel at busy = no, and at busy = yes the gauge still
in CANCELLING. GAUGE_MEASURE_TIMEOUT and GAUGE_CANCEL_TIMEOUT: the deadline reached at now: GAUGE_TIMEOUT with the measured stand,
which goes to LOADED, or without a stand. A stand's pending load and then the gauge's are applied after. Where the event that a row
names does not come about, the row changes nothing (DESIGN CHOICE, log entry 2). -/
def Obligations.GaugeRows : Prop :=
  (∀ (s : State) (g : GaugeNo) (v : GaugeSample), .gauge g ∈ s.frame.fresh → (s.gauge g).monitor.held = some v →
      (∀ n rest, (s.gauge g).queue = n :: rest → s.nextIs (.start g) → (s.gauge g).state = .idle → v.busy = false →
        exec (.gaugeMeasureStart g) s = .next
          ((s.dropDue (.start g)).onGauge g fun u =>
            { u with
              queue := rest, sequence := u.sequence + 1
              state := .measuring n (s.now + BitVec.ofNat 32 (1000 * measureTimeout u.table)) })) ∧
      (s.nextIs (.start g) → (s.gauge g).state = .idle → v.busy = true ∨ (s.gauge g).queue = [] →
        exec (.gaugeMeasureStart g) s = .next s) ∧
      (∀ n deadline, (s.gauge g).state = .measuring n deadline → s.nextIs (.result g) →
        v.completed ≠ (s.gauge g).sequence → exec (.gaugeResult g) s = .next s) ∧
      (∀ n deadline, (s.gauge g).state = .measuring n deadline → s.nextIs (.result g) → v.completed = (s.gauge g).sequence →
        let t := (s.stand n).table
        let d : Int := 2 * (t[26].toNat : Int) - 2 * v.distance
        let fits : Prop := v.valid = true ∧ (coreDiameter t : Int) + 1 ≤ d ∧ d ≤ 15000
        let idle (u : State) : State := settleGauge g ((settleStand n u).onGauge g fun x => { x with state := .idle })
        (fits →
          let done := ((s.dropDue (.result g)).onStand n fun st =>
            { st with state := .ready, newReel := st.newReel.map fun r => { r with diameter := some ⟨d.toNat, .gauge⟩ } }).takeEvent
              .rangeDone (some n) (some (.gauge g)) (some d.toNat)
          exec (.gaugeResult g) s = .next
            (idle (if s.responder.table[3].getLsbD 2 then
              done.onResponder fun r => { r with flags := r.flags.set n.val { r.flags[n.val] with rangeResult := true } }
            else done))) ∧
        (¬fits → exec (.gaugeResult g) s = .next
          (idle (((s.dropDue (.result g)).onStand n fun st => { st with state := .loaded }).takeEvent .rangeBad (some n)
            (some (.gauge g)) (if v.valid then some v.distance else none))))) ∧
      ∀ deadline, (s.gauge g).state = .cancelling deadline → s.nextIs (.result g) →
        (v.busy = false → exec (.gaugeCancelEnd g) s = .next
          (settleGauge g ((s.dropDue (.result g)).onGauge g fun u => { u with state := .idle }))) ∧
        (v.busy = true → perform (.result g) s = s ∧ exec (.gaugeCancelEnd g) s = .next s)) ∧
  ∀ (s : State) (g : GaugeNo) (deadline : BitVec 32), s.nextIs (.timeout g) →
    let reached : Prop := 0 ≤ (s.now - deadline).toInt
    (∀ n, (s.gauge g).state = .measuring n deadline →
      (reached → exec (.gaugeMeasureTimeout g) s = .next
        (settleGauge g ((settleStand n (((s.dropDue (.timeout g)).takeEvent .gaugeTimeout (some n) (some (.gauge g)) none).onStand n
          fun st => { st with state := .loaded })).onGauge g fun u => { u with state := .idle }))) ∧
      (¬reached → exec (.gaugeMeasureTimeout g) s = .next s)) ∧
    ((s.gauge g).state = .cancelling deadline →
      (reached → exec (.gaugeCancelTimeout g) s = .next
        (settleGauge g (((s.dropDue (.timeout g)).onGauge g fun u => { u with state := .idle }).takeEvent .gaugeTimeout none
          (some (.gauge g)) none))) ∧
      (¬reached → exec (.gaugeCancelTimeout g) s = .next s))

/-! ### The tracker's rows (chapter 7) -/

/-- R130 steps 2 and 3, R129, R131, R132, R133, R134, R135: HOLD_CHECKPOINT and REJECT_POINT at an accepted sample. Every HOLD
checkpoint that the count has reached, from the entry's next one on, prepares its window in path order, and the next checkpoint
moves on past them; nothing else changes. An entry at its FOLDER checkpoint whose reject point the count has reached: the copies
ordered are the larger of N and the folder's remaining copies, with REJECT_ISSUED, and the group prepares one order for the frame,
its number one on at the first and its copy count the largest. A sample that reaches no such point leaves the entry, and all else,
as it stands. -/
def Obligations.EntryPoints : Prop :=
  (∀ (s : State) (n : StandNo) (v : StandSample) (g : GroupNo) (e : Entry) (stop : Nat),
      s.nextIs (.holds n) → .stand n ∈ s.frame.fresh → (s.stand n).monitor.held = some v → s.trackersSound →
      e ∈ (s.group g).tracker → e.stand = n →
      let p := (s.path n).table
      let at_ (c : Nat) : Prop := c < checkpointCount p ∧ isHold p c = true ∧
        0 ≤ (v.length - (e.contactLength + BitVec.ofNat 32 (pathLength p c))).toInt
      e.next < stop → stop ≤ 4 → (∀ c, e.next ≤ c → c < stop → at_ c) → (¬at_ stop ∨ stop = e.next + 4) →
      exec (.holdCheckpoint n) s = .next
        { ((s.dropDue (.holds n)).onGroup g fun u =>
            { u with tracker := u.tracker.map fun x => if x.stand = n then { x with next := stop } else x }) with
          windows := s.windows ++ (List.range (stop - e.next)).map fun i =>
            (holdSlot p (e.next + i), holdWindow p (e.next + i)) }) ∧
  (∀ (s : State) (n : StandNo) (v : StandSample) (g : GroupNo) (e : Entry),
    s.nextIs (.reject n) → .stand n ∈ s.frame.fresh → (s.stand n).monitor.held = some v → s.trackersSound →
    e ∈ (s.group g).tracker → e.stand = n → e.rejectIssued = false →
    let p := (s.path n).table
    let t := (s.group g).table
    (checkpointCount p ≤ e.next ∨ isHold p e.next = false) →
    0 ≤ (v.length - (e.contactLength + BitVec.ofNat 32 (pathLength p (checkpointCount p - 1)) - BitVec.ofNat 32 (preMargin t))).toInt →
    let copies := max ((preMargin t + (s.stand n).table[25].toNat + postMargin t + cutoff t - 1) / cutoff t)
      (match (s.group g).monitor.held with | some c => c | none => 0)
    exec (.rejectPoint n) s = .next
      (((s.dropDue (.reject n)).takeEvent .rejectIssued (some n) (some (.group g)) (some copies)).onGroup g fun u =>
        { u with
          tracker := u.tracker.map fun x => if x.stand = n then { x with rejectIssued := true, copies := some copies } else x
          orderNumber := if u.orderPrepared then u.orderNumber else u.orderNumber + 1
          copyCount := if u.orderPrepared then max u.copyCount copies else copies
          orderPrepared := true })) ∧
  ∀ (s : State) (n : StandNo) (v : StandSample) (g : GroupNo) (e : Entry),
    .stand n ∈ s.frame.fresh → (s.stand n).monitor.held = some v → s.trackersSound → e ∈ (s.group g).tracker → e.stand = n →
    let p := (s.path n).table
    let atHold : Prop := e.next < checkpointCount p ∧ isHold p e.next = true
    (¬atHold ∨ (v.length - (e.contactLength + BitVec.ofNat 32 (pathLength p e.next))).toInt < 0 →
      perform (.holds n) s = s) ∧
    (atHold ∨ e.rejectIssued = true ∨
        (v.length - (e.contactLength + BitVec.ofNat 32 (pathLength p (checkpointCount p - 1))
          - BitVec.ofNat 32 (preMargin (s.group g).table))).toInt < 0 →
      perform (.reject n) s = s)

/-- R130 step 4, R136, R138, R167, R108, R109, R129, R141, R143: how an entry leaves its list. CLEARANCE_POINT: at an accepted
sample an entry with its reject issued whose clearance point the count has reached; an accepted sample leaves any other entry. The
missed test at the return of the ring: an entry whose reject is not issued and whose reject point the held count has reached, with
REJECT_MISSED, and no order or window is prepared; any other entry stays. The lock is released where the entry held it; then the
path's pending load is applied where it now can be, and then the group's is settled (PendingLoads). -/
def Obligations.EntriesLeave : Prop :=
  (∀ (s : State) (n : StandNo) (v : StandSample) (g : GroupNo) (e : Entry),
      .stand n ∈ s.frame.fresh → (s.stand n).monitor.held = some v → s.trackersSound → e ∈ (s.group g).tracker → e.stand = n →
      let p := (s.path n).table
      let cleared : Prop := e.rejectIssued = true ∧
        0 ≤ (v.length - (e.contactLength + BitVec.ofNat 32 (pathLength p (checkpointCount p - 1))
          + BitVec.ofNat 32 ((s.group g).table[5].toNat * 10000))).toInt
      let left := (s.dropDue (.clear n)).onGroup g fun u => { u with tracker := u.tracker.filter (·.stand != n) }
      (s.nextIs (.clear n) → cleared → exec (.clearancePoint n) s = .next
        (settleReleased g (settlePath n
          (if e.holdsLock then
            (left.onGroup g fun u => { u with holder := .none }).takeEvent .lockReleased (some n) (some (.group g)) none
          else left)))) ∧
      (¬cleared → perform (.clear n) s = s)) ∧
  ∀ (s : State) (n : StandNo) (v : StandSample) (g : GroupNo) (e : Entry),
    s.frame.recovery = true → (s.stand n).monitor.held = some v → s.trackersSound → e ∈ (s.group g).tracker → e.stand = n →
    let p := (s.path n).table
    let missed : Prop := e.rejectIssued = false ∧
      0 ≤ (v.length - (e.contactLength + BitVec.ofNat 32 (pathLength p (checkpointCount p - 1))
        - BitVec.ofNat 32 (preMargin (s.group g).table))).toInt
    let left := (s.onGroup g fun u => { u with tracker := u.tracker.filter (·.stand != n) }).takeEvent .rejectMissed (some n)
      (some (.group g)) none
    (missed → perform (.recover n) s =
      settleReleased g (settlePath n
        (if e.holdsLock then
          (left.onGroup g fun u => { u with holder := .none }).takeEvent .lockReleased (some n) (some (.group g)) none
        else left))) ∧
    (¬missed → perform (.recover n) s = s)

/-! ### What every step keeps -/

/-- R179, R180, R150, R177: an event is appended at the tail with the stamp of now, setting the EVENTS flag on an empty queue where
the mask admits it; on a full queue it is discarded and the overflow flag set. And no command lets the queue hold more than 32
records. -/
def Obligations.EventQueue : Prop :=
  (∀ (s : State) (k : EventKind) (a : Option StandNo) (b : Option EventUnit) (d : Option Nat),
    let e : Event :=
      { kind := k, stand := a, unit := b, detail := d
        cycle := match s.port.last with | some h => h.cycle | none => 0
        time := match s.port.last with | some h => h.time | none => 0 }
    s.takeEvent k a b d =
      if s.responder.events.length < 32 then
        { s with
          responder :=
            { s.responder with
              events := s.responder.events ++ [e]
              eventsFlag := s.responder.eventsFlag || (decide (s.responder.events = []) && s.responder.table[3].getLsbD 4) } }
      else { s with responder := { s.responder with overflow := true } }) ∧
  ∀ (c : Instr) (s t : State), s.eventsSound → exec c s = .next t → t.eventsSound

/-- R40, R122, R139, R142, R173, R41, R46, R140, R42: every applied value of every table lies in its entry's range, the splice
diameter is above the core diameter and a path has its shape, and the values of every load held pending would keep it so: every step
keeps this. -/
def Obligations.TablesStayInRange : Prop :=
  ∀ s t : State, s.tablesSound → step s = .next t → t.tablesSound

/-- R152, R41, R46: no two output fields of different table instances, applied or pending, share a slot unless both are hold slots:
every step keeps this. -/
def Obligations.FieldsStayApart : Prop :=
  ∀ s t : State, s.placementSound → step s = .next t → t.placementSound

/-- R2, R3, R29, R45, R68, R71, R92, R95, R96, R103, R113, R114, R125, R126, R141, R143 and the ranges of the tables: every step of
the machine keeps a sound state sound: stands with their records, marks, schedule and command values; holders, waiting sets and
tracker lists; gauges and their queues; loads held pending. -/
def Obligations.EveryStepKeepsSound : Prop :=
  ∀ s t : State, s.Sound → step s = .next t → t.Sound

/-- The machine right after reset is sound, its output fields apart and its queue within bounds, with any straps; so the three
statements that a step keeps them speak of every run from reset. -/
def Obligations.ResetIsSound : Prop :=
  State.reset.Sound ∧ State.reset.placementSound ∧ State.reset.eventsSound ∧
  ∀ straps, (State.powerOn straps).Sound ∧ (State.powerOn straps).placementSound ∧ (State.powerOn straps).eventsSound

/-- R103, R95, R125, R113, R71, R86: the manual's whole-machine sentences, of every sound state: each stand in ACCELERATING, ADVANCE
or BRUSH holds its group's lock or carries the forced mark, never both; a lock has at most one holder, a stand of the group in those
states or an entry of its list; no stand has entries in two lists; a stand is in RANGING exactly when its gauge queues or measures
it; the rotation reference is at most n_max, and zero outside ACCELERATING and PASTING; a knife time is prepared in CUT alone. -/
def Obligations.SoundStatesObeyTheSentences : Prop :=
  ∀ s : State, s.Sound →
    (∀ n, (s.stand n).state ∈ [StandState.accelerating, .pasting .advance, .pasting .brush] →
      ((s.group (s.groupOf n)).holder = .stand n ↔ (s.stand n).forced = false) ∧
      ∀ g, ∀ e ∈ (s.group g).tracker, e.stand ≠ n) ∧
    (∀ g n, (s.group g).holder = .stand n → s.groupOf n = g ∧
      (s.stand n).state ∈ [StandState.accelerating, .pasting .advance, .pasting .brush]) ∧
    (∀ g n, (s.group g).holder = .entry n → ∃ e ∈ (s.group g).tracker, e.stand = n ∧ e.holdsLock = true ∧ e.forced = false) ∧
    (∀ g h, ∀ a ∈ (s.group g).tracker, ∀ b ∈ (s.group h).tracker, a.stand = b.stand → g = h ∧ a = b) ∧
    (∀ n, (s.stand n).state = .ranging ↔
      ∃ g, gaugeEntry (s.stand n).table = some g ∧ (n ∈ (s.gauge g).queue ∨ (s.gauge g).measures n = true)) ∧
    (∀ n, (s.stand n).rotationRef ≤ rotationLimit (s.stand n).table ∧
      ((s.stand n).state ∉ [StandState.accelerating, .pasting .advance, .pasting .brush, .pasting .cut] →
        (s.stand n).rotationRef = 0)) ∧
    ∀ n k, (s.stand n).knifeAt = some k → (s.stand n).state = .pasting .cut
end

