-- ==== Sys2Proof/Laws/State.lean ====
section
/-!
SUPPORT. Each update of the state read back, field by field and part by part: what it changes and what it leaves.
-/

namespace Sys2Proof.Machine

set_option Elab.async false

variable (s : State)

/-! ### `onStand` -/

@[simp] theorem State.onStand_pending (n : StandNo) (f : Stand → Stand) : (s.onStand n f).pending = s.pending := rfl

@[simp] theorem State.onStand_out (n : StandNo) (f : Stand → Stand) : (s.onStand n f).out = s.out := rfl

@[simp] theorem State.onStand_resetLow (n : StandNo) (f : Stand → Stand) : (s.onStand n f).resetLow = s.resetLow := rfl

@[simp] theorem State.onStand_nodeAddress (n : StandNo) (f : Stand → Stand) : (s.onStand n f).nodeAddress = s.nodeAddress := rfl

@[simp] theorem State.onStand_port (n : StandNo) (f : Stand → Stand) : (s.onStand n f).port = s.port := rfl

@[simp] theorem State.onStand_groups (n : StandNo) (f : Stand → Stand) : (s.onStand n f).groups = s.groups := rfl

@[simp] theorem State.onStand_gauges (n : StandNo) (f : Stand → Stand) : (s.onStand n f).gauges = s.gauges := rfl

@[simp] theorem State.onStand_paths (n : StandNo) (f : Stand → Stand) : (s.onStand n f).paths = s.paths := rfl

@[simp] theorem State.onStand_windows (n : StandNo) (f : Stand → Stand) : (s.onStand n f).windows = s.windows := rfl

@[simp] theorem State.onStand_responder (n : StandNo) (f : Stand → Stand) : (s.onStand n f).responder = s.responder := rfl

@[simp] theorem State.onStand_frame (n : StandNo) (f : Stand → Stand) : (s.onStand n f).frame = s.frame := rfl

@[simp] theorem State.onStand_group (n : StandNo) (f : Stand → Stand) (h : GroupNo) : (s.onStand n f).group h = s.group h := rfl

@[simp] theorem State.onStand_gauge (n : StandNo) (f : Stand → Stand) (h : GaugeNo) : (s.onStand n f).gauge h = s.gauge h := rfl

@[simp] theorem State.onStand_path (n : StandNo) (f : Stand → Stand) (m : StandNo) : (s.onStand n f).path m = s.path m := rfl

@[simp] theorem State.onStand_now (n : StandNo) (f : Stand → Stand) : (s.onStand n f).now = s.now := rfl

@[simp] theorem State.onStand_cycleNow (n : StandNo) (f : Stand → Stand) : (s.onStand n f).cycleNow = s.cycleNow := rfl

@[simp] theorem State.onStand_period (n : StandNo) (f : Stand → Stand) : (s.onStand n f).period = s.period := rfl

/-! ### `onGroup` -/

@[simp] theorem State.onGroup_pending (g : GroupNo) (f : Group → Group) : (s.onGroup g f).pending = s.pending := rfl

@[simp] theorem State.onGroup_out (g : GroupNo) (f : Group → Group) : (s.onGroup g f).out = s.out := rfl

@[simp] theorem State.onGroup_resetLow (g : GroupNo) (f : Group → Group) : (s.onGroup g f).resetLow = s.resetLow := rfl

@[simp] theorem State.onGroup_nodeAddress (g : GroupNo) (f : Group → Group) : (s.onGroup g f).nodeAddress = s.nodeAddress := rfl

@[simp] theorem State.onGroup_port (g : GroupNo) (f : Group → Group) : (s.onGroup g f).port = s.port := rfl

@[simp] theorem State.onGroup_stands (g : GroupNo) (f : Group → Group) : (s.onGroup g f).stands = s.stands := rfl

@[simp] theorem State.onGroup_gauges (g : GroupNo) (f : Group → Group) : (s.onGroup g f).gauges = s.gauges := rfl

@[simp] theorem State.onGroup_paths (g : GroupNo) (f : Group → Group) : (s.onGroup g f).paths = s.paths := rfl

@[simp] theorem State.onGroup_windows (g : GroupNo) (f : Group → Group) : (s.onGroup g f).windows = s.windows := rfl

@[simp] theorem State.onGroup_responder (g : GroupNo) (f : Group → Group) : (s.onGroup g f).responder = s.responder := rfl

@[simp] theorem State.onGroup_frame (g : GroupNo) (f : Group → Group) : (s.onGroup g f).frame = s.frame := rfl

@[simp] theorem State.onGroup_stand (g : GroupNo) (f : Group → Group) (m : StandNo) : (s.onGroup g f).stand m = s.stand m := rfl

@[simp] theorem State.onGroup_gauge (g : GroupNo) (f : Group → Group) (h : GaugeNo) : (s.onGroup g f).gauge h = s.gauge h := rfl

@[simp] theorem State.onGroup_path (g : GroupNo) (f : Group → Group) (m : StandNo) : (s.onGroup g f).path m = s.path m := rfl

@[simp] theorem State.onGroup_now (g : GroupNo) (f : Group → Group) : (s.onGroup g f).now = s.now := rfl

@[simp] theorem State.onGroup_cycleNow (g : GroupNo) (f : Group → Group) : (s.onGroup g f).cycleNow = s.cycleNow := rfl

@[simp] theorem State.onGroup_period (g : GroupNo) (f : Group → Group) : (s.onGroup g f).period = s.period := rfl

/-! ### `onGauge` -/

@[simp] theorem State.onGauge_pending (g : GaugeNo) (f : Gauge → Gauge) : (s.onGauge g f).pending = s.pending := rfl

@[simp] theorem State.onGauge_out (g : GaugeNo) (f : Gauge → Gauge) : (s.onGauge g f).out = s.out := rfl

@[simp] theorem State.onGauge_resetLow (g : GaugeNo) (f : Gauge → Gauge) : (s.onGauge g f).resetLow = s.resetLow := rfl

@[simp] theorem State.onGauge_nodeAddress (g : GaugeNo) (f : Gauge → Gauge) : (s.onGauge g f).nodeAddress = s.nodeAddress := rfl

@[simp] theorem State.onGauge_port (g : GaugeNo) (f : Gauge → Gauge) : (s.onGauge g f).port = s.port := rfl

@[simp] theorem State.onGauge_stands (g : GaugeNo) (f : Gauge → Gauge) : (s.onGauge g f).stands = s.stands := rfl

@[simp] theorem State.onGauge_groups (g : GaugeNo) (f : Gauge → Gauge) : (s.onGauge g f).groups = s.groups := rfl

@[simp] theorem State.onGauge_paths (g : GaugeNo) (f : Gauge → Gauge) : (s.onGauge g f).paths = s.paths := rfl

@[simp] theorem State.onGauge_windows (g : GaugeNo) (f : Gauge → Gauge) : (s.onGauge g f).windows = s.windows := rfl

@[simp] theorem State.onGauge_responder (g : GaugeNo) (f : Gauge → Gauge) : (s.onGauge g f).responder = s.responder := rfl

@[simp] theorem State.onGauge_frame (g : GaugeNo) (f : Gauge → Gauge) : (s.onGauge g f).frame = s.frame := rfl

@[simp] theorem State.onGauge_stand (g : GaugeNo) (f : Gauge → Gauge) (m : StandNo) : (s.onGauge g f).stand m = s.stand m := rfl

@[simp] theorem State.onGauge_group (g : GaugeNo) (f : Gauge → Gauge) (h : GroupNo) : (s.onGauge g f).group h = s.group h := rfl

@[simp] theorem State.onGauge_path (g : GaugeNo) (f : Gauge → Gauge) (m : StandNo) : (s.onGauge g f).path m = s.path m := rfl

@[simp] theorem State.onGauge_now (g : GaugeNo) (f : Gauge → Gauge) : (s.onGauge g f).now = s.now := rfl

@[simp] theorem State.onGauge_cycleNow (g : GaugeNo) (f : Gauge → Gauge) : (s.onGauge g f).cycleNow = s.cycleNow := rfl

@[simp] theorem State.onGauge_period (g : GaugeNo) (f : Gauge → Gauge) : (s.onGauge g f).period = s.period := rfl

/-! ### `onPath` -/

@[simp] theorem State.onPath_pending (n : StandNo) (f : PathTable → PathTable) : (s.onPath n f).pending = s.pending := rfl

@[simp] theorem State.onPath_out (n : StandNo) (f : PathTable → PathTable) : (s.onPath n f).out = s.out := rfl

@[simp] theorem State.onPath_resetLow (n : StandNo) (f : PathTable → PathTable) : (s.onPath n f).resetLow = s.resetLow := rfl

@[simp] theorem State.onPath_nodeAddress (n : StandNo) (f : PathTable → PathTable) : (s.onPath n f).nodeAddress = s.nodeAddress := rfl

@[simp] theorem State.onPath_port (n : StandNo) (f : PathTable → PathTable) : (s.onPath n f).port = s.port := rfl

@[simp] theorem State.onPath_stands (n : StandNo) (f : PathTable → PathTable) : (s.onPath n f).stands = s.stands := rfl

@[simp] theorem State.onPath_groups (n : StandNo) (f : PathTable → PathTable) : (s.onPath n f).groups = s.groups := rfl

@[simp] theorem State.onPath_gauges (n : StandNo) (f : PathTable → PathTable) : (s.onPath n f).gauges = s.gauges := rfl

@[simp] theorem State.onPath_windows (n : StandNo) (f : PathTable → PathTable) : (s.onPath n f).windows = s.windows := rfl

@[simp] theorem State.onPath_responder (n : StandNo) (f : PathTable → PathTable) : (s.onPath n f).responder = s.responder := rfl

@[simp] theorem State.onPath_frame (n : StandNo) (f : PathTable → PathTable) : (s.onPath n f).frame = s.frame := rfl

@[simp] theorem State.onPath_stand (n : StandNo) (f : PathTable → PathTable) (m : StandNo) : (s.onPath n f).stand m = s.stand m := rfl

@[simp] theorem State.onPath_group (n : StandNo) (f : PathTable → PathTable) (h : GroupNo) : (s.onPath n f).group h = s.group h := rfl

@[simp] theorem State.onPath_gauge (n : StandNo) (f : PathTable → PathTable) (h : GaugeNo) : (s.onPath n f).gauge h = s.gauge h := rfl

@[simp] theorem State.onPath_now (n : StandNo) (f : PathTable → PathTable) : (s.onPath n f).now = s.now := rfl

@[simp] theorem State.onPath_cycleNow (n : StandNo) (f : PathTable → PathTable) : (s.onPath n f).cycleNow = s.cycleNow := rfl

@[simp] theorem State.onPath_period (n : StandNo) (f : PathTable → PathTable) : (s.onPath n f).period = s.period := rfl

/-! ### `onPort` -/

@[simp] theorem State.onPort_pending (f : Port → Port) : (s.onPort f).pending = s.pending := rfl

@[simp] theorem State.onPort_out (f : Port → Port) : (s.onPort f).out = s.out := rfl

@[simp] theorem State.onPort_resetLow (f : Port → Port) : (s.onPort f).resetLow = s.resetLow := rfl

@[simp] theorem State.onPort_nodeAddress (f : Port → Port) : (s.onPort f).nodeAddress = s.nodeAddress := rfl

@[simp] theorem State.onPort_stands (f : Port → Port) : (s.onPort f).stands = s.stands := rfl

@[simp] theorem State.onPort_groups (f : Port → Port) : (s.onPort f).groups = s.groups := rfl

@[simp] theorem State.onPort_gauges (f : Port → Port) : (s.onPort f).gauges = s.gauges := rfl

@[simp] theorem State.onPort_paths (f : Port → Port) : (s.onPort f).paths = s.paths := rfl

@[simp] theorem State.onPort_windows (f : Port → Port) : (s.onPort f).windows = s.windows := rfl

@[simp] theorem State.onPort_responder (f : Port → Port) : (s.onPort f).responder = s.responder := rfl

@[simp] theorem State.onPort_frame (f : Port → Port) : (s.onPort f).frame = s.frame := rfl

@[simp] theorem State.onPort_stand (f : Port → Port) (m : StandNo) : (s.onPort f).stand m = s.stand m := rfl

@[simp] theorem State.onPort_group (f : Port → Port) (h : GroupNo) : (s.onPort f).group h = s.group h := rfl

@[simp] theorem State.onPort_gauge (f : Port → Port) (h : GaugeNo) : (s.onPort f).gauge h = s.gauge h := rfl

@[simp] theorem State.onPort_path (f : Port → Port) (m : StandNo) : (s.onPort f).path m = s.path m := rfl

@[simp] theorem State.onPort_port (f : Port → Port) : (s.onPort f).port = f s.port := rfl

/-! ### `onResponder` -/

@[simp] theorem State.onResponder_pending (f : Responder → Responder) : (s.onResponder f).pending = s.pending := rfl

@[simp] theorem State.onResponder_out (f : Responder → Responder) : (s.onResponder f).out = s.out := rfl

@[simp] theorem State.onResponder_resetLow (f : Responder → Responder) : (s.onResponder f).resetLow = s.resetLow := rfl

@[simp] theorem State.onResponder_nodeAddress (f : Responder → Responder) : (s.onResponder f).nodeAddress = s.nodeAddress := rfl

@[simp] theorem State.onResponder_port (f : Responder → Responder) : (s.onResponder f).port = s.port := rfl

@[simp] theorem State.onResponder_stands (f : Responder → Responder) : (s.onResponder f).stands = s.stands := rfl

@[simp] theorem State.onResponder_groups (f : Responder → Responder) : (s.onResponder f).groups = s.groups := rfl

@[simp] theorem State.onResponder_gauges (f : Responder → Responder) : (s.onResponder f).gauges = s.gauges := rfl

@[simp] theorem State.onResponder_paths (f : Responder → Responder) : (s.onResponder f).paths = s.paths := rfl

@[simp] theorem State.onResponder_windows (f : Responder → Responder) : (s.onResponder f).windows = s.windows := rfl

@[simp] theorem State.onResponder_frame (f : Responder → Responder) : (s.onResponder f).frame = s.frame := rfl

@[simp] theorem State.onResponder_stand (f : Responder → Responder) (m : StandNo) : (s.onResponder f).stand m = s.stand m := rfl

@[simp] theorem State.onResponder_group (f : Responder → Responder) (h : GroupNo) : (s.onResponder f).group h = s.group h := rfl

@[simp] theorem State.onResponder_gauge (f : Responder → Responder) (h : GaugeNo) : (s.onResponder f).gauge h = s.gauge h := rfl

@[simp] theorem State.onResponder_path (f : Responder → Responder) (m : StandNo) : (s.onResponder f).path m = s.path m := rfl

@[simp] theorem State.onResponder_responder (f : Responder → Responder) : (s.onResponder f).responder = f s.responder := rfl

@[simp] theorem State.onResponder_now (f : Responder → Responder) : (s.onResponder f).now = s.now := rfl

@[simp] theorem State.onResponder_cycleNow (f : Responder → Responder) : (s.onResponder f).cycleNow = s.cycleNow := rfl

@[simp] theorem State.onResponder_period (f : Responder → Responder) : (s.onResponder f).period = s.period := rfl

/-! ### `onFrame` -/

@[simp] theorem State.onFrame_pending (f : FrameWork → FrameWork) : (s.onFrame f).pending = s.pending := rfl

@[simp] theorem State.onFrame_out (f : FrameWork → FrameWork) : (s.onFrame f).out = s.out := rfl

@[simp] theorem State.onFrame_resetLow (f : FrameWork → FrameWork) : (s.onFrame f).resetLow = s.resetLow := rfl

@[simp] theorem State.onFrame_nodeAddress (f : FrameWork → FrameWork) : (s.onFrame f).nodeAddress = s.nodeAddress := rfl

@[simp] theorem State.onFrame_port (f : FrameWork → FrameWork) : (s.onFrame f).port = s.port := rfl

@[simp] theorem State.onFrame_stands (f : FrameWork → FrameWork) : (s.onFrame f).stands = s.stands := rfl

@[simp] theorem State.onFrame_groups (f : FrameWork → FrameWork) : (s.onFrame f).groups = s.groups := rfl

@[simp] theorem State.onFrame_gauges (f : FrameWork → FrameWork) : (s.onFrame f).gauges = s.gauges := rfl

@[simp] theorem State.onFrame_paths (f : FrameWork → FrameWork) : (s.onFrame f).paths = s.paths := rfl

@[simp] theorem State.onFrame_windows (f : FrameWork → FrameWork) : (s.onFrame f).windows = s.windows := rfl

@[simp] theorem State.onFrame_responder (f : FrameWork → FrameWork) : (s.onFrame f).responder = s.responder := rfl

@[simp] theorem State.onFrame_stand (f : FrameWork → FrameWork) (m : StandNo) : (s.onFrame f).stand m = s.stand m := rfl

@[simp] theorem State.onFrame_group (f : FrameWork → FrameWork) (h : GroupNo) : (s.onFrame f).group h = s.group h := rfl

@[simp] theorem State.onFrame_gauge (f : FrameWork → FrameWork) (h : GaugeNo) : (s.onFrame f).gauge h = s.gauge h := rfl

@[simp] theorem State.onFrame_path (f : FrameWork → FrameWork) (m : StandNo) : (s.onFrame f).path m = s.path m := rfl

@[simp] theorem State.onFrame_frame (f : FrameWork → FrameWork) : (s.onFrame f).frame = f s.frame := rfl

@[simp] theorem State.onFrame_now (f : FrameWork → FrameWork) : (s.onFrame f).now = s.now := rfl

@[simp] theorem State.onFrame_cycleNow (f : FrameWork → FrameWork) : (s.onFrame f).cycleNow = s.cycleNow := rfl

@[simp] theorem State.onFrame_period (f : FrameWork → FrameWork) : (s.onFrame f).period = s.period := rfl

/-! ### `takeEvent` -/

@[simp] theorem State.takeEvent_pending (k : EventKind) (a : Option StandNo) (b : Option EventUnit) (c : Option Nat) : (s.takeEvent k a b c).pending = s.pending := rfl

@[simp] theorem State.takeEvent_out (k : EventKind) (a : Option StandNo) (b : Option EventUnit) (c : Option Nat) : (s.takeEvent k a b c).out = s.out := rfl

@[simp] theorem State.takeEvent_resetLow (k : EventKind) (a : Option StandNo) (b : Option EventUnit) (c : Option Nat) : (s.takeEvent k a b c).resetLow = s.resetLow := rfl

@[simp] theorem State.takeEvent_nodeAddress (k : EventKind) (a : Option StandNo) (b : Option EventUnit) (c : Option Nat) : (s.takeEvent k a b c).nodeAddress = s.nodeAddress := rfl

@[simp] theorem State.takeEvent_port (k : EventKind) (a : Option StandNo) (b : Option EventUnit) (c : Option Nat) : (s.takeEvent k a b c).port = s.port := rfl

@[simp] theorem State.takeEvent_stands (k : EventKind) (a : Option StandNo) (b : Option EventUnit) (c : Option Nat) : (s.takeEvent k a b c).stands = s.stands := rfl

@[simp] theorem State.takeEvent_groups (k : EventKind) (a : Option StandNo) (b : Option EventUnit) (c : Option Nat) : (s.takeEvent k a b c).groups = s.groups := rfl

@[simp] theorem State.takeEvent_gauges (k : EventKind) (a : Option StandNo) (b : Option EventUnit) (c : Option Nat) : (s.takeEvent k a b c).gauges = s.gauges := rfl

@[simp] theorem State.takeEvent_paths (k : EventKind) (a : Option StandNo) (b : Option EventUnit) (c : Option Nat) : (s.takeEvent k a b c).paths = s.paths := rfl

@[simp] theorem State.takeEvent_windows (k : EventKind) (a : Option StandNo) (b : Option EventUnit) (c : Option Nat) : (s.takeEvent k a b c).windows = s.windows := rfl

@[simp] theorem State.takeEvent_frame (k : EventKind) (a : Option StandNo) (b : Option EventUnit) (c : Option Nat) : (s.takeEvent k a b c).frame = s.frame := rfl

@[simp] theorem State.takeEvent_stand (k : EventKind) (a : Option StandNo) (b : Option EventUnit) (c : Option Nat) (m : StandNo) : (s.takeEvent k a b c).stand m = s.stand m := rfl

@[simp] theorem State.takeEvent_group (k : EventKind) (a : Option StandNo) (b : Option EventUnit) (c : Option Nat) (h : GroupNo) : (s.takeEvent k a b c).group h = s.group h := rfl

@[simp] theorem State.takeEvent_gauge (k : EventKind) (a : Option StandNo) (b : Option EventUnit) (c : Option Nat) (h : GaugeNo) : (s.takeEvent k a b c).gauge h = s.gauge h := rfl

@[simp] theorem State.takeEvent_path (k : EventKind) (a : Option StandNo) (b : Option EventUnit) (c : Option Nat) (m : StandNo) : (s.takeEvent k a b c).path m = s.path m := rfl

@[simp] theorem State.takeEvent_now (k : EventKind) (a : Option StandNo) (b : Option EventUnit) (c : Option Nat) : (s.takeEvent k a b c).now = s.now := rfl

@[simp] theorem State.takeEvent_cycleNow (k : EventKind) (a : Option StandNo) (b : Option EventUnit) (c : Option Nat) : (s.takeEvent k a b c).cycleNow = s.cycleNow := rfl

@[simp] theorem State.takeEvent_period (k : EventKind) (a : Option StandNo) (b : Option EventUnit) (c : Option Nat) : (s.takeEvent k a b c).period = s.period := rfl

/-! ### `standEvent` -/

@[simp] theorem State.standEvent_pending (k : EventKind) (n : StandNo) : (s.standEvent k n).pending = s.pending := rfl

@[simp] theorem State.standEvent_out (k : EventKind) (n : StandNo) : (s.standEvent k n).out = s.out := rfl

@[simp] theorem State.standEvent_resetLow (k : EventKind) (n : StandNo) : (s.standEvent k n).resetLow = s.resetLow := rfl

@[simp] theorem State.standEvent_nodeAddress (k : EventKind) (n : StandNo) : (s.standEvent k n).nodeAddress = s.nodeAddress := rfl

@[simp] theorem State.standEvent_port (k : EventKind) (n : StandNo) : (s.standEvent k n).port = s.port := rfl

@[simp] theorem State.standEvent_stands (k : EventKind) (n : StandNo) : (s.standEvent k n).stands = s.stands := rfl

@[simp] theorem State.standEvent_groups (k : EventKind) (n : StandNo) : (s.standEvent k n).groups = s.groups := rfl

@[simp] theorem State.standEvent_gauges (k : EventKind) (n : StandNo) : (s.standEvent k n).gauges = s.gauges := rfl

@[simp] theorem State.standEvent_paths (k : EventKind) (n : StandNo) : (s.standEvent k n).paths = s.paths := rfl

@[simp] theorem State.standEvent_windows (k : EventKind) (n : StandNo) : (s.standEvent k n).windows = s.windows := rfl

@[simp] theorem State.standEvent_frame (k : EventKind) (n : StandNo) : (s.standEvent k n).frame = s.frame := rfl

@[simp] theorem State.standEvent_stand (k : EventKind) (n : StandNo) (m : StandNo) : (s.standEvent k n).stand m = s.stand m := rfl

@[simp] theorem State.standEvent_group (k : EventKind) (n : StandNo) (h : GroupNo) : (s.standEvent k n).group h = s.group h := rfl

@[simp] theorem State.standEvent_gauge (k : EventKind) (n : StandNo) (h : GaugeNo) : (s.standEvent k n).gauge h = s.gauge h := rfl

@[simp] theorem State.standEvent_path (k : EventKind) (n : StandNo) (m : StandNo) : (s.standEvent k n).path m = s.path m := rfl

@[simp] theorem State.standEvent_now (k : EventKind) (n : StandNo) : (s.standEvent k n).now = s.now := rfl

@[simp] theorem State.standEvent_cycleNow (k : EventKind) (n : StandNo) : (s.standEvent k n).cycleNow = s.cycleNow := rfl

@[simp] theorem State.standEvent_period (k : EventKind) (n : StandNo) : (s.standEvent k n).period = s.period := rfl

/-! ### `putFlags` -/

@[simp] theorem State.putFlags_pending (n : StandNo) (x : StandFlags) : (s.putFlags n x).pending = s.pending := rfl

@[simp] theorem State.putFlags_out (n : StandNo) (x : StandFlags) : (s.putFlags n x).out = s.out := rfl

@[simp] theorem State.putFlags_resetLow (n : StandNo) (x : StandFlags) : (s.putFlags n x).resetLow = s.resetLow := rfl

@[simp] theorem State.putFlags_nodeAddress (n : StandNo) (x : StandFlags) : (s.putFlags n x).nodeAddress = s.nodeAddress := rfl

@[simp] theorem State.putFlags_port (n : StandNo) (x : StandFlags) : (s.putFlags n x).port = s.port := rfl

@[simp] theorem State.putFlags_stands (n : StandNo) (x : StandFlags) : (s.putFlags n x).stands = s.stands := rfl

@[simp] theorem State.putFlags_groups (n : StandNo) (x : StandFlags) : (s.putFlags n x).groups = s.groups := rfl

@[simp] theorem State.putFlags_gauges (n : StandNo) (x : StandFlags) : (s.putFlags n x).gauges = s.gauges := rfl

@[simp] theorem State.putFlags_paths (n : StandNo) (x : StandFlags) : (s.putFlags n x).paths = s.paths := rfl

@[simp] theorem State.putFlags_windows (n : StandNo) (x : StandFlags) : (s.putFlags n x).windows = s.windows := rfl

@[simp] theorem State.putFlags_frame (n : StandNo) (x : StandFlags) : (s.putFlags n x).frame = s.frame := rfl

@[simp] theorem State.putFlags_stand (n : StandNo) (x : StandFlags) (m : StandNo) : (s.putFlags n x).stand m = s.stand m := rfl

@[simp] theorem State.putFlags_group (n : StandNo) (x : StandFlags) (h : GroupNo) : (s.putFlags n x).group h = s.group h := rfl

@[simp] theorem State.putFlags_gauge (n : StandNo) (x : StandFlags) (h : GaugeNo) : (s.putFlags n x).gauge h = s.gauge h := rfl

@[simp] theorem State.putFlags_path (n : StandNo) (x : StandFlags) (m : StandNo) : (s.putFlags n x).path m = s.path m := rfl

@[simp] theorem State.putFlags_now (n : StandNo) (x : StandFlags) : (s.putFlags n x).now = s.now := rfl

@[simp] theorem State.putFlags_cycleNow (n : StandNo) (x : StandFlags) : (s.putFlags n x).cycleNow = s.cycleNow := rfl

@[simp] theorem State.putFlags_period (n : StandNo) (x : StandFlags) : (s.putFlags n x).period = s.period := rfl

/-! ### A part written, and the others -/

@[simp] theorem State.onStand_stand_self (n : StandNo) (f : Stand → Stand) : (s.onStand n f).stand n = f (s.stand n) := by
  simp [State.onStand, State.stand]

theorem State.onStand_stand_ne (n m : StandNo) (f : Stand → Stand) (h : n ≠ m) : (s.onStand n f).stand m = s.stand m := by
  simp [State.onStand, State.stand, Fin.val_ne_of_ne h]

/-- The stands after one is changed. -/
theorem State.onStand_stand (n m : StandNo) (f : Stand → Stand) :
    (s.onStand n f).stand m = if n = m then f (s.stand n) else s.stand m := by
  split
  · next h => subst h; simp
  · next h => exact s.onStand_stand_ne n m f h

@[simp] theorem State.onGroup_group_self (g : GroupNo) (f : Group → Group) : (s.onGroup g f).group g = f (s.group g) := by
  simp [State.onGroup, State.group]

theorem State.onGroup_group_ne (g h : GroupNo) (f : Group → Group) (w : g ≠ h) : (s.onGroup g f).group h = s.group h := by
  simp [State.onGroup, State.group, Fin.val_ne_of_ne w]

/-- The groups after one is changed. -/
theorem State.onGroup_group (g h : GroupNo) (f : Group → Group) :
    (s.onGroup g f).group h = if g = h then f (s.group g) else s.group h := by
  split
  · next w => subst w; simp
  · next w => exact s.onGroup_group_ne g h f w

@[simp] theorem State.onGauge_gauge_self (g : GaugeNo) (f : Gauge → Gauge) : (s.onGauge g f).gauge g = f (s.gauge g) := by
  simp [State.onGauge, State.gauge]

theorem State.onGauge_gauge_ne (g h : GaugeNo) (f : Gauge → Gauge) (w : g ≠ h) : (s.onGauge g f).gauge h = s.gauge h := by
  simp [State.onGauge, State.gauge, Fin.val_ne_of_ne w]

/-- The gauges after one is changed. -/
theorem State.onGauge_gauge (g h : GaugeNo) (f : Gauge → Gauge) :
    (s.onGauge g f).gauge h = if g = h then f (s.gauge g) else s.gauge h := by
  split
  · next w => subst w; simp
  · next w => exact s.onGauge_gauge_ne g h f w

@[simp] theorem State.onPath_path_self (n : StandNo) (f : PathTable → PathTable) : (s.onPath n f).path n = f (s.path n) := by
  simp [State.onPath, State.path]

theorem State.onPath_path_ne (n m : StandNo) (f : PathTable → PathTable) (h : n ≠ m) : (s.onPath n f).path m = s.path m := by
  simp [State.onPath, State.path, Fin.val_ne_of_ne h]

/-- The path tables after one is changed. -/
theorem State.onPath_path (n m : StandNo) (f : PathTable → PathTable) :
    (s.onPath n f).path m = if n = m then f (s.path n) else s.path m := by
  split
  · next h => subst h; simp
  · next h => exact s.onPath_path_ne n m f h

/-! ### Two changes of one part -/

theorem State.onStand_onStand (n : StandNo) (f k : Stand → Stand) :
    (s.onStand n f).onStand n k = s.onStand n (fun x => k (f x)) := by
  simp [State.onStand, State.stand]

theorem State.onGroup_onGroup (g : GroupNo) (f k : Group → Group) :
    (s.onGroup g f).onGroup g k = s.onGroup g (fun x => k (f x)) := by
  simp [State.onGroup, State.group]

theorem State.onGauge_onGauge (g : GaugeNo) (f k : Gauge → Gauge) :
    (s.onGauge g f).onGauge g k = s.onGauge g (fun x => k (f x)) := by
  simp [State.onGauge, State.gauge]

theorem State.onPath_onPath (n : StandNo) (f k : PathTable → PathTable) :
    (s.onPath n f).onPath n k = s.onPath n (fun x => k (f x)) := by
  simp [State.onPath, State.path]

theorem State.onResponder_onResponder (f k : Responder → Responder) :
    (s.onResponder f).onResponder k = s.onResponder (fun x => k (f x)) := rfl

/-! ### A change is known by what it makes of its part -/

theorem State.onStand_congr {n : StandNo} {f k : Stand → Stand} (h : f (s.stand n) = k (s.stand n)) :
    s.onStand n f = s.onStand n k := by simp [State.onStand, h]

theorem State.onGroup_congr {g : GroupNo} {f k : Group → Group} (h : f (s.group g) = k (s.group g)) :
    s.onGroup g f = s.onGroup g k := by simp [State.onGroup, h]

theorem State.onGauge_congr {g : GaugeNo} {f k : Gauge → Gauge} (h : f (s.gauge g) = k (s.gauge g)) :
    s.onGauge g f = s.onGauge g k := by simp [State.onGauge, h]

theorem State.onStand_same {n : StandNo} {f : Stand → Stand} (h : f (s.stand n) = s.stand n) : s.onStand n f = s := by
  unfold State.onStand; rw [h]; simp [State.stand]

theorem State.onGroup_same {g : GroupNo} {f : Group → Group} (h : f (s.group g) = s.group g) : s.onGroup g f = s := by
  unfold State.onGroup; rw [h]; simp [State.group]

theorem State.onGauge_same {g : GaugeNo} {f : Gauge → Gauge} (h : f (s.gauge g) = s.gauge g) : s.onGauge g f = s := by
  unfold State.onGauge; rw [h]; simp [State.gauge]

/-! ### Changes of different parts, in either order -/

theorem State.onStand_onGroup (n : StandNo) (f : Stand → Stand) (g : GroupNo) (k : Group → Group) :
    (s.onStand n f).onGroup g k = (s.onGroup g k).onStand n f := rfl

theorem State.onStand_onGauge (n : StandNo) (f : Stand → Stand) (g : GaugeNo) (k : Gauge → Gauge) :
    (s.onStand n f).onGauge g k = (s.onGauge g k).onStand n f := rfl

theorem State.onStand_onResponder (n : StandNo) (f : Stand → Stand) (k : Responder → Responder) :
    (s.onStand n f).onResponder k = (s.onResponder k).onStand n f := rfl

theorem State.onStand_takeEvent (n : StandNo) (f : Stand → Stand) (k : EventKind) (a : Option StandNo) (b : Option EventUnit)
    (d : Option Nat) : (s.onStand n f).takeEvent k a b d = (s.takeEvent k a b d).onStand n f := rfl

theorem State.onGroup_takeEvent (g : GroupNo) (f : Group → Group) (k : EventKind) (a : Option StandNo) (b : Option EventUnit)
    (d : Option Nat) : (s.onGroup g f).takeEvent k a b d = (s.takeEvent k a b d).onGroup g f := rfl

theorem State.onGauge_takeEvent (g : GaugeNo) (f : Gauge → Gauge) (k : EventKind) (a : Option StandNo) (b : Option EventUnit)
    (d : Option Nat) : (s.onGauge g f).takeEvent k a b d = (s.takeEvent k a b d).onGauge g f := rfl

end Sys2Proof.Machine
end

