-- ==== Sys2Proof/Laws/Events.lean ====
section
/-!
SUPPORT. What taking an event and raising a flag can do (R177, R179): they touch the Service Responder alone, and of it the queue,
the overflow flag and the flags.
-/

namespace Sys2Proof.Machine

set_option Elab.async false

variable (s : State) (k : EventKind) (a : Option StandNo) (b : Option EventUnit) (d : Option Nat) (n : StandNo) (x : StandFlag)

/-- The part table does not change with an event. -/
@[simp] theorem State.takeEvent_table : (s.takeEvent k a b d).responder.table = s.responder.table := by
  simp only [State.takeEvent, State.onResponder, Responder.append]; split <;> rfl

/-- The stands' flags do not change with an event. -/
@[simp] theorem State.takeEvent_flags : (s.takeEvent k a b d).responder.flags = s.responder.flags := by
  simp only [State.takeEvent, State.onResponder, Responder.append]; split <;> rfl

/-- The loaded condition of the part table does not change with an event. -/
@[simp] theorem State.takeEvent_loaded : (s.takeEvent k a b d).responder.loaded = s.responder.loaded := by
  simp only [State.takeEvent, State.onResponder, Responder.append]; split <;> rfl

/-- R179: with room in the queue the record is its last; with none the queue stays. -/
theorem State.takeEvent_events :
    (s.takeEvent k a b d).responder.events =
      if s.responder.events.length < 32 then
        s.responder.events ++ [{ kind := k, stand := a, unit := b, cycle := s.cycleNow, time := s.now, detail := d }]
      else s.responder.events := by
  by_cases h : s.responder.events.length < 32
  · have h' : ¬32 ≤ s.responder.events.length := by omega
    simp [State.takeEvent, State.onResponder, Responder.append, Config.eventCapacity, h, h']
  · have h' : 32 ≤ s.responder.events.length := by omega
    simp [State.takeEvent, State.onResponder, Responder.append, Config.eventCapacity, h, h']

/-- R179: the queue of 32 records is never passed by an event. -/
theorem State.takeEvent_eventsSound (h : s.eventsSound) : (s.takeEvent k a b d).eventsSound := by
  show (s.takeEvent k a b d).responder.events.length ≤ 32
  have h' : s.responder.events.length ≤ 32 := h
  rw [State.takeEvent_events]
  split <;> simp <;> omega

/-- R177: raising a stand's flag, by cases of the attention mask. -/
theorem State.raiseFlag_eq :
    s.raiseFlag n x =
      if maskBit s.responder.table (flagBit x) then s.putFlags n (withFlag x (s.flagsOf n)) else s := rfl

@[simp] theorem State.raiseFlag_stand (m : StandNo) : (s.raiseFlag n x).stand m = s.stand m := by
  rw [State.raiseFlag_eq]; split <;> rfl

@[simp] theorem State.raiseFlag_group (g : GroupNo) : (s.raiseFlag n x).group g = s.group g := by
  rw [State.raiseFlag_eq]; split <;> rfl

@[simp] theorem State.raiseFlag_gauge (g : GaugeNo) : (s.raiseFlag n x).gauge g = s.gauge g := by
  rw [State.raiseFlag_eq]; split <;> rfl

@[simp] theorem State.raiseFlag_path (m : StandNo) : (s.raiseFlag n x).path m = s.path m := by
  rw [State.raiseFlag_eq]; split <;> rfl

@[simp] theorem State.raiseFlag_port : (s.raiseFlag n x).port = s.port := by
  rw [State.raiseFlag_eq]; split <;> rfl

@[simp] theorem State.raiseFlag_frame : (s.raiseFlag n x).frame = s.frame := by
  rw [State.raiseFlag_eq]; split <;> rfl

@[simp] theorem State.raiseFlag_out : (s.raiseFlag n x).out = s.out := by
  rw [State.raiseFlag_eq]; split <;> rfl

@[simp] theorem State.raiseFlag_pending : (s.raiseFlag n x).pending = s.pending := by
  rw [State.raiseFlag_eq]; split <;> rfl

@[simp] theorem State.raiseFlag_events : (s.raiseFlag n x).responder.events = s.responder.events := by
  rw [State.raiseFlag_eq]; split <;> rfl

@[simp] theorem State.raiseFlag_table : (s.raiseFlag n x).responder.table = s.responder.table := by
  rw [State.raiseFlag_eq]; split <;> rfl

end Sys2Proof.Machine
end

