-- ==== Sys2Proof/Laws/Acceptance.lean ====
section
/-!
SUPPORT. What the acceptance of a cycle frame keeps of the tables and the tracker lists, and with it what the acceptance hands over and makes
due.
-/

namespace Sys2Proof.Machine

set_option Elab.async false

/-- The applied tables, the loaded conditions and the tracker lists are as they were. -/
structure SameMap (s t : State) : Prop where
  stand : ∀ n, (t.stand n).table = (s.stand n).table ∧ (t.stand n).loaded = (s.stand n).loaded
  gauge : ∀ g, (t.gauge g).table = (s.gauge g).table ∧ (t.gauge g).loaded = (s.gauge g).loaded
  group : ∀ g, (t.group g).table = (s.group g).table ∧ (t.group g).loaded = (s.group g).loaded ∧
    (t.group g).tracker = (s.group g).tracker

theorem SameMap.refl (s : State) : SameMap s s := ⟨fun _ => ⟨rfl, rfl⟩, fun _ => ⟨rfl, rfl⟩, fun _ => ⟨rfl, rfl, rfl⟩⟩

theorem SameMap.trans {s t u : State} (h : SameMap s t) (k : SameMap t u) : SameMap s u where
  stand n := ⟨(k.stand n).1.trans (h.stand n).1, (k.stand n).2.trans (h.stand n).2⟩
  gauge g := ⟨(k.gauge g).1.trans (h.gauge g).1, (k.gauge g).2.trans (h.gauge g).2⟩
  group g := ⟨(k.group g).1.trans (h.group g).1, (k.group g).2.1.trans (h.group g).2.1, (k.group g).2.2.trans (h.group g).2.2⟩

/-- A step that touches no stand, gauge or group keeps the map. -/
theorem SameMap.of_blocks {s t : State} (a : t.stands = s.stands) (b : t.gauges = s.gauges) (c : t.groups = s.groups) :
    SameMap s t := by
  constructor <;> intro n <;> simp [State.stand, State.gauge, State.group, a, b, c]

theorem SameMap.foldl {α : Type} {f : State → α → State} (h : ∀ s a, SameMap s (f s a)) (l : List α) (s : State) :
    SameMap s (l.foldl f s) := by
  induction l generalizing s with
  | nil => exact .refl s
  | cons a l ih => exact (h s a).trans (ih _)

theorem sameMap_advanceCounter (o : OutputField) (s : State) : SameMap s (advanceCounter o s) := by
  cases o with
  | status => exact .refl s
  | hold _ => exact .refl s
  | stand m =>
    refine ⟨fun n => ?_, fun _ => ⟨rfl, rfl⟩, fun _ => ⟨rfl, rfl, rfl⟩⟩
    simp only [advanceCounter, State.onStand_stand]; split <;> simp_all
  | gauge m =>
    refine ⟨fun _ => ⟨rfl, rfl⟩, fun n => ?_, fun _ => ⟨rfl, rfl, rfl⟩⟩
    simp only [advanceCounter, State.onGauge_gauge]; split <;> simp_all
  | folder m =>
    refine ⟨fun _ => ⟨rfl, rfl⟩, fun _ => ⟨rfl, rfl⟩, fun n => ?_⟩
    simp only [advanceCounter, State.onGroup_group]; split <;> simp_all

theorem sameMap_returnRing (s : State) : SameMap s (returnRing s) := by
  unfold returnRing
  split
  · apply SameMap.of_blocks <;> simp [State.raiseRing] <;> split <;> simp
  · exact .refl s

theorem sameMap_testShort (count : Nat) (s : State) : SameMap s (testShort count s) := by
  unfold testShort
  split
  · exact .of_blocks rfl rfl rfl
  · split
    · exact .refl s
    · apply SameMap.of_blocks <;> simp

theorem sameMap_advanceOutputs (count : Nat) (s : State) : SameMap s (advanceOutputs count s) := by
  have a : SameMap s (s.onPort fun p => { p with statusBase := statusBaseEntry s.responder.table }) := .of_blocks rfl rfl rfl
  exact a.trans (.foldl (fun u (p : Placed OutputField) => sameMap_advanceCounter p.field u) _ _)

theorem sameMap_noOrder (s : State) (g : GroupNo) : SameMap s (s.onGroup g fun x => { x with orderPrepared := false }) := by
  refine ⟨fun _ => ⟨rfl, rfl⟩, fun _ => ⟨rfl, rfl⟩, fun n => ?_⟩
  simp only [State.onGroup_group]; split <;> simp_all

/-- R147 step 8, R164: the frame record that an acceptance leaves, from a state with the same map: what is handed over is each input
field as the frame brought it, and the work due is that of R164. -/
theorem acceptFrame_frame (f : Frame) (s : State) :
    ∃ t, SameMap s t ∧ (acceptFrame f s).frame =
      { handed := t.handed f.slots, fresh := [], moved := [], recovery := s.port.ring == .lost
        limits := Vector.ofFn fun n => staleLimit (t.stand n).table, grantFirst := [], due := t.frameDue } := by
  refine ⟨(List.finRange 4).foldl (fun u g => u.onGroup g fun x => { x with orderPrepared := false })
    (advanceOutputs (slotCount f) (testShort (slotCount f)
      ((returnRing (takeHeader f s)).onPort fun p => { p with timeBack := false }))), ?_, rfl⟩
  have a : SameMap s (takeHeader f s) := .of_blocks rfl rfl rfl
  have b := a.trans (sameMap_returnRing _)
  have c : SameMap (returnRing (takeHeader f s)) ((returnRing (takeHeader f s)).onPort fun p => { p with timeBack := false }) :=
    .of_blocks rfl rfl rfl
  have d := ((b.trans c).trans (sameMap_testShort (slotCount f) _)).trans (sameMap_advanceOutputs (slotCount f) _)
  exact d.trans (.foldl sameMap_noOrder _ _)

/-- R125: a stand has an entry where some group's list holds one of it. -/
theorem State.hasEntry_iff (s : State) (n : StandNo) :
    s.hasEntry n = true ↔ ∃ g, ∃ e ∈ (s.group g).tracker, e.stand = n := by
  simp only [State.hasEntry, List.any_eq_true, beq_iff_eq]
  constructor
  · rintro ⟨u, hu, e, he, h⟩
    obtain ⟨i, hi, rfl⟩ := List.mem_iff_getElem.1 hu
    exact ⟨⟨i, by simpa using hi⟩, e, by simpa [State.group] using he, h⟩
  · rintro ⟨g, e, he, h⟩
    exact ⟨s.group g, by simp [State.group], e, he, h⟩

/-- R151: an input field is in the map from its table's first applied load on, at the base that the table gives. -/
theorem State.mem_inputFields (s : State) (p : Placed InputField) :
    p ∈ s.inputFields ↔
      match p.field with
      | .stand n => (s.stand n).loaded = true ∧ p.base = sampleBase (s.stand n).table ∧ p.len = 8
      | .gauge g => (s.gauge g).loaded = true ∧ p.base = gaugeSampleBase (s.gauge g).table ∧ p.len = 3
      | .folder g => (s.group g).loaded = true ∧ p.base = folderSampleBase (s.group g).table ∧ p.len = 2 := by
  have pick (c : Bool) (a : Placed InputField) : (if c = true then some a else none) = some p ↔ c = true ∧ a = p := by
    cases c <;> simp
  simp only [State.inputFields, List.mem_append, List.mem_filterMap, List.mem_finRange, true_and, pick]
  obtain ⟨x, b, l⟩ := p
  cases x <;> simp <;> exact fun _ => ⟨fun h => ⟨h.1.symm, h.2.symm⟩, fun h => ⟨h.1.symm, h.2.symm⟩⟩

end Sys2Proof.Machine
end

