-- ==== Sys2Proof/Laws/Work.lean ====
section
/-!
SUPPORT. How pieces of a frame's work are taken: `takePiece`, the pieces that go before one, and the rows of `comesAbout`.
-/

namespace Sys2Proof.Machine

set_option Elab.async false

/-- Dropping a due piece touches the due work alone. -/
@[simp] theorem State.dropDue_due (s : State) (w : Work) : (s.dropDue w).frame.due = s.frame.due.filter (· != w) := rfl
@[simp] theorem State.dropDue_fresh (s : State) (w : Work) : (s.dropDue w).frame.fresh = s.frame.fresh := rfl
@[simp] theorem State.dropDue_handed (s : State) (w : Work) : (s.dropDue w).frame.handed = s.frame.handed := rfl
@[simp] theorem State.dropDue_moved (s : State) (w : Work) : (s.dropDue w).frame.moved = s.frame.moved := rfl
@[simp] theorem State.dropDue_recovery (s : State) (w : Work) : (s.dropDue w).frame.recovery = s.frame.recovery := rfl
@[simp] theorem State.dropDue_limits (s : State) (w : Work) : (s.dropDue w).frame.limits = s.frame.limits := rfl
@[simp] theorem State.dropDue_grantFirst (s : State) (w : Work) : (s.dropDue w).frame.grantFirst = s.frame.grantFirst := rfl
@[simp] theorem State.dropDue_stand (s : State) (w : Work) (n : StandNo) : (s.dropDue w).stand n = s.stand n := rfl
@[simp] theorem State.dropDue_group (s : State) (w : Work) (g : GroupNo) : (s.dropDue w).group g = s.group g := rfl
@[simp] theorem State.dropDue_gauge (s : State) (w : Work) (g : GaugeNo) : (s.dropDue w).gauge g = s.gauge g := rfl
@[simp] theorem State.dropDue_path (s : State) (w : Work) (n : StandNo) : (s.dropDue w).path n = s.path n := rfl
@[simp] theorem State.dropDue_now (s : State) (w : Work) : (s.dropDue w).now = s.now := rfl
@[simp] theorem State.dropDue_port (s : State) (w : Work) : (s.dropDue w).port = s.port := rfl
@[simp] theorem State.dropDue_groups (s : State) (w : Work) : (s.dropDue w).groups = s.groups := rfl
@[simp] theorem State.dropDue_responder (s : State) (w : Work) : (s.dropDue w).responder = s.responder := rfl
@[simp] theorem State.dropDue_windows (s : State) (w : Work) : (s.dropDue w).windows = s.windows := rfl

/-- R49: tracking a stand's reel is what the claims call it. -/
theorem trackStand_eq (n : StandNo) (v : StandSample) (s : State) : trackStand n v s = s.reelTracked n v := rfl

/-- R49, R70: how every sample in ACCELERATING and PASTING begins, for a stand whose new reel has a diameter. -/
theorem referTo_trackStand {s : State} {n : StandNo} {q : NewReel} {d : MeasuredDiameter} (v : StandSample)
    (h : (s.stand n).newReel = some q) (hd : q.diameter = some d) : referTo n v (trackStand n v s) = s.referred n v d := by
  simp [referTo, trackStand, State.onStand, State.stand, Stand.reference, rotationReference, divNearest] at h ⊢
  simp [h, hd]

/-- A piece that is not due changes nothing. -/
theorem takePiece_idle {s : State} {w : Work} (h : w ∉ s.frame.due) : takePiece s w = s := by
  simp [takePiece, h]

/-- A piece that is due is taken off the due work and performed. -/
theorem takePiece_due {s : State} {w : Work} (h : w ∈ s.frame.due) : takePiece s w = perform w (s.dropDue w) := by
  simp [takePiece, h]

/-- Pieces none of which is due change nothing. -/
theorem takePieces_idle {s : State} {ws : List Work} (h : ∀ w ∈ ws, w ∉ s.frame.due) : ws.foldl takePiece s = s := by
  induction ws with
  | nil => rfl
  | cons w ws ih =>
    rw [List.foldl_cons, takePiece_idle (h w (by simp))]
    exact ih fun p q => h p (by simp [q])

/-- R164: with no work due, a service frame finds nothing to finish. -/
theorem finishFrame_idle {s : State} (h : s.frame.due = []) : finishFrame s = s := by
  simp [finishFrame, carryOutAll, h]

/-- A row whose piece is next: the piece is taken where the row's event comes about in it, else nothing happens. -/
theorem comesAbout_next {s : State} {w : Work} (h : s.nextIs w) (came : State → State → Bool) :
    comesAbout w came s = if came s (perform w (s.dropDue w)) then perform w (s.dropDue w) else s := by
  obtain ⟨r, d, p⟩ := h
  simp [comesAbout, takePieces_idle p, takePiece_due d, r, d]

/-- While RESET is low, and where its piece is not due, a row changes nothing. -/
theorem comesAbout_idle {s : State} {w : Work} (h : s.resetLow = true ∨ w ∉ s.frame.due) (came : State → State → Bool) :
    comesAbout w came s = s := by
  rcases h with h | h <;> simp [comesAbout, h]

end Sys2Proof.Machine
end

