-- ==== Sys2Proof/Laws/Locks.lean ====
section
/-!
SUPPORT. What the operations of the Group Lock Unit and of the Gauge Scheduler can do that other blocks call: giving back a lock,
withdrawing a wait, leaving a gauge, and the choice of the smallest key (R5, R96, R98, R109, R114, R120).
-/

namespace Sys2Proof.Machine

set_option Elab.async false

variable (s : State)

/-! ### Giving back a lock (R5, R109) -/

@[simp] theorem releaseLock_pending (g : GroupNo) (n : StandNo) : (releaseLock g n s).pending = s.pending := rfl

@[simp] theorem releaseLock_out (g : GroupNo) (n : StandNo) : (releaseLock g n s).out = s.out := rfl

@[simp] theorem releaseLock_resetLow (g : GroupNo) (n : StandNo) : (releaseLock g n s).resetLow = s.resetLow := rfl

@[simp] theorem releaseLock_nodeAddress (g : GroupNo) (n : StandNo) : (releaseLock g n s).nodeAddress = s.nodeAddress := rfl

@[simp] theorem releaseLock_port (g : GroupNo) (n : StandNo) : (releaseLock g n s).port = s.port := rfl

@[simp] theorem releaseLock_windows (g : GroupNo) (n : StandNo) : (releaseLock g n s).windows = s.windows := rfl

@[simp] theorem releaseLock_frame (g : GroupNo) (n : StandNo) : (releaseLock g n s).frame = s.frame := rfl

@[simp] theorem releaseLock_stands (g : GroupNo) (n : StandNo) : (releaseLock g n s).stands = s.stands := rfl

@[simp] theorem releaseLock_gauges (g : GroupNo) (n : StandNo) : (releaseLock g n s).gauges = s.gauges := rfl

@[simp] theorem releaseLock_paths (g : GroupNo) (n : StandNo) : (releaseLock g n s).paths = s.paths := rfl

@[simp] theorem giveBackLock_pending (n : StandNo) : (giveBackLock n s).pending = s.pending := by
  unfold giveBackLock; split <;> rfl

@[simp] theorem giveBackLock_out (n : StandNo) : (giveBackLock n s).out = s.out := by
  unfold giveBackLock; split <;> rfl

@[simp] theorem giveBackLock_resetLow (n : StandNo) : (giveBackLock n s).resetLow = s.resetLow := by
  unfold giveBackLock; split <;> rfl

@[simp] theorem giveBackLock_nodeAddress (n : StandNo) : (giveBackLock n s).nodeAddress = s.nodeAddress := by
  unfold giveBackLock; split <;> rfl

@[simp] theorem giveBackLock_port (n : StandNo) : (giveBackLock n s).port = s.port := by
  unfold giveBackLock; split <;> rfl

@[simp] theorem giveBackLock_windows (n : StandNo) : (giveBackLock n s).windows = s.windows := by
  unfold giveBackLock; split <;> rfl

@[simp] theorem giveBackLock_frame (n : StandNo) : (giveBackLock n s).frame = s.frame := by
  unfold giveBackLock; split <;> rfl

@[simp] theorem giveBackLock_stands (n : StandNo) : (giveBackLock n s).stands = s.stands := by
  unfold giveBackLock; split <;> rfl

@[simp] theorem giveBackLock_gauges (n : StandNo) : (giveBackLock n s).gauges = s.gauges := by
  unfold giveBackLock; split <;> rfl

@[simp] theorem giveBackLock_paths (n : StandNo) : (giveBackLock n s).paths = s.paths := by
  unfold giveBackLock; split <;> rfl

/-- R5: a stand that is not the holder gives nothing back. -/
theorem giveBackLock_of_not (n : StandNo) (h : s.holdsLock n = false) : giveBackLock n s = s := by simp [giveBackLock, h]

/-- R5, R109: a holder gives the lock back, with LOCK_RELEASED. -/
theorem giveBackLock_of_holder (n : StandNo) (h : s.holdsLock n = true) :
    giveBackLock n s = (s.onGroup (s.groupOf n) fun u => { u with holder := .none }).takeEvent .lockReleased (some n)
      (some (.group (s.groupOf n))) none := by simp [giveBackLock, releaseLock, h]

/-- R5: after giving back, the stand is the holder of no lock. -/
theorem giveBackLock_holder (n : StandNo) : ((giveBackLock n s).group (s.groupOf n)).holder ≠ .stand n := by
  cases h : s.holdsLock n
  · rw [giveBackLock_of_not s n h]
    simpa [State.holdsLock] using h
  · rw [giveBackLock_of_holder s n h]
    simp

/-! ### What follows a release (R109, R143) -/

/-- Taking a piece off the due work does not change the choice of the smallest key. -/
@[simp] theorem smallestKey_dropDue (w : Work) (l : List StandNo) : smallestKey (s.dropDue w) l = smallestKey s l := by
  induction l with
  | nil => rfl
  | cons n ns ih => simp only [smallestKey, ih]; rfl

/-- Taking a piece off the due work does not change whom a grant would choose. -/
@[simp] theorem grantee_dropDue (g : GroupNo) (w : Work) : (s.dropDue w).grantee g = s.grantee g := by
  have e : (s.dropDue w).eligible g = s.eligible g := rfl
  simp [State.grantee, e]

/-- R99: a granted group has its holder. -/
@[simp] theorem grantTo_holder (g : GroupNo) (n : StandNo) : ((grantTo g n s).group g).holder = .stand n := by
  simp [grantTo, enterAccelerating]

/-- R143: where no grant goes first, the pending group-table load is settled as always. -/
theorem settleReleased_plain {g : GroupNo} (h : s.grantGoesFirst g = false) : settleReleased g s = settleGroup g s := by
  simp [settleReleased, h]

/-- Between the work of two frames no grant goes first. -/
theorem settleReleased_idle (g : GroupNo) (h : s.frame.due = []) : settleReleased g s = settleGroup g s :=
  settleReleased_plain s (by simp [State.grantGoesFirst, h])

/-- R143: a grant that goes first and is made leaves the group with a holder, and the load stays pending. -/
theorem settleReleased_granted {g : GroupNo} {n : StandNo} (h : s.grantGoesFirst g = true) (e : s.grantee g = some n) :
    settleReleased g s = grantTo g n (s.dropDue (.grant g)) := by
  simp [settleReleased, considerGrant, settleGroup, h, e]

/-- R143: a grant that goes first and is not made is considered no more at this frame, and the load is settled. -/
theorem settleReleased_refused {g : GroupNo} (h : s.grantGoesFirst g = true) (e : s.grantee g = none) :
    settleReleased g s = settleGroup g (s.dropDue (.grant g)) := by
  simp [settleReleased, considerGrant, h, e]

/-! ### Leaving a gauge (R114, R120) -/

@[simp] theorem leaveGauge_pending (n : StandNo) : (leaveGauge n s).pending = s.pending := by
  unfold leaveGauge; split <;> [(split <;> rfl); rfl]

@[simp] theorem leaveGauge_out (n : StandNo) : (leaveGauge n s).out = s.out := by
  unfold leaveGauge; split <;> [(split <;> rfl); rfl]

@[simp] theorem leaveGauge_resetLow (n : StandNo) : (leaveGauge n s).resetLow = s.resetLow := by
  unfold leaveGauge; split <;> [(split <;> rfl); rfl]

@[simp] theorem leaveGauge_nodeAddress (n : StandNo) : (leaveGauge n s).nodeAddress = s.nodeAddress := by
  unfold leaveGauge; split <;> [(split <;> rfl); rfl]

@[simp] theorem leaveGauge_port (n : StandNo) : (leaveGauge n s).port = s.port := by
  unfold leaveGauge; split <;> [(split <;> rfl); rfl]

@[simp] theorem leaveGauge_windows (n : StandNo) : (leaveGauge n s).windows = s.windows := by
  unfold leaveGauge; split <;> [(split <;> rfl); rfl]

@[simp] theorem leaveGauge_frame (n : StandNo) : (leaveGauge n s).frame = s.frame := by
  unfold leaveGauge; split <;> [(split <;> rfl); rfl]

@[simp] theorem leaveGauge_stands (n : StandNo) : (leaveGauge n s).stands = s.stands := by
  unfold leaveGauge; split <;> [(split <;> rfl); rfl]

@[simp] theorem leaveGauge_groups (n : StandNo) : (leaveGauge n s).groups = s.groups := by
  unfold leaveGauge; split <;> [(split <;> rfl); rfl]

@[simp] theorem leaveGauge_paths (n : StandNo) : (leaveGauge n s).paths = s.paths := by
  unfold leaveGauge; split <;> [(split <;> rfl); rfl]

@[simp] theorem leaveGauge_responder (n : StandNo) : (leaveGauge n s).responder = s.responder := by
  unfold leaveGauge; split <;> [(split <;> rfl); rfl]

/-! ### The smallest key (R98) -/

/-- R98: keys are totally ordered. -/
theorem keyBelow_trans (a b c : Option Nat) (h : keyBelow b a = false) (k : keyBelow c b = false) : keyBelow c a = false := by
  cases a <;> cases b <;> cases c <;> simp_all [keyBelow]; omega

/-- R98: a key that is not below another lies above it or is equal. -/
theorem keyBelow_asymm (a b : Option Nat) (h : keyBelow a b = true) : keyBelow b a = false := by
  cases a <;> cases b <;> simp_all [keyBelow]; omega

/-- R98: a choice is made from every list but the empty one. -/
theorem smallestKey_none (l : List StandNo) : smallestKey s l = none ↔ l = [] := by
  cases l with
  | nil => simp [smallestKey]
  | cons n ns =>
    simp only [smallestKey]
    split <;> [simp; (split <;> simp)]

/-- R98: the stand chosen from a list is in it, and no stand of the list has a smaller key. -/
theorem smallestKey_least (l : List StandNo) (n : StandNo) (h : smallestKey s l = some n) :
    n ∈ l ∧ ∀ m ∈ l, keyBelow (s.stand m).key (s.stand n).key = false := by
  induction l generalizing n with
  | nil => simp [smallestKey] at h
  | cons a as ih =>
    have refl (x : Option Nat) : keyBelow x x = false := by cases x <;> simp [keyBelow]
    simp only [smallestKey] at h
    cases e : smallestKey s as with
    | none =>
      rw [e] at h
      obtain rfl := Option.some.inj h
      obtain rfl := (smallestKey_none s as).1 e
      simp [refl]
    | some m =>
      rw [e] at h
      obtain ⟨hm, least⟩ := ih m e
      simp only at h
      split at h
      · next below =>
        obtain rfl := Option.some.inj h
        refine ⟨List.mem_cons_of_mem _ hm, fun k hk => ?_⟩
        rcases List.mem_cons.1 hk with rfl | hk
        · exact keyBelow_asymm _ _ below
        · exact least k hk
      · next above =>
        obtain rfl := Option.some.inj h
        refine ⟨List.mem_cons_self, fun k hk => ?_⟩
        rcases List.mem_cons.1 hk with rfl | hk
        · exact refl _
        · exact keyBelow_trans _ _ _ (by simpa using above) (least k hk)

end Sys2Proof.Machine
end

