-- ==== Sys2Proof/Laws/Tables.lean ====
section
/-!
SUPPORT. What applying a load held pending can do (`settleStand`, `settleGauge`, `settleGroup`, `settlePath`): of the instance, its
table, its loaded condition, its pending load and its monitor; of all else, an event of the Service Responder and the record of
moved fields.
-/

namespace Sys2Proof.Machine

set_option Elab.async false

variable (s : State)

/-! ### Marking a moved field -/

@[simp] theorem markMoved_pending (f : InputField) (b : Bool) : (markMoved f b s).pending = s.pending := by
  unfold markMoved; split <;> rfl

@[simp] theorem markMoved_out (f : InputField) (b : Bool) : (markMoved f b s).out = s.out := by
  unfold markMoved; split <;> rfl

@[simp] theorem markMoved_resetLow (f : InputField) (b : Bool) : (markMoved f b s).resetLow = s.resetLow := by
  unfold markMoved; split <;> rfl

@[simp] theorem markMoved_nodeAddress (f : InputField) (b : Bool) : (markMoved f b s).nodeAddress = s.nodeAddress := by
  unfold markMoved; split <;> rfl

@[simp] theorem markMoved_port (f : InputField) (b : Bool) : (markMoved f b s).port = s.port := by
  unfold markMoved; split <;> rfl

@[simp] theorem markMoved_windows (f : InputField) (b : Bool) : (markMoved f b s).windows = s.windows := by
  unfold markMoved; split <;> rfl

@[simp] theorem markMoved_stands (f : InputField) (b : Bool) : (markMoved f b s).stands = s.stands := by
  unfold markMoved; split <;> rfl

@[simp] theorem markMoved_groups (f : InputField) (b : Bool) : (markMoved f b s).groups = s.groups := by
  unfold markMoved; split <;> rfl

@[simp] theorem markMoved_gauges (f : InputField) (b : Bool) : (markMoved f b s).gauges = s.gauges := by
  unfold markMoved; split <;> rfl

@[simp] theorem markMoved_paths (f : InputField) (b : Bool) : (markMoved f b s).paths = s.paths := by
  unfold markMoved; split <;> rfl

@[simp] theorem markMoved_responder (f : InputField) (b : Bool) : (markMoved f b s).responder = s.responder := by
  unfold markMoved; split <;> rfl

/-! ### `settleStand` -/

@[simp] theorem settleStand_pending (n : StandNo) : (settleStand n s).pending = s.pending := by
  unfold settleStand releaseStandLoad applyStandLoad; split <;> [skip; skip] <;> first | rfl | (split <;> simp)

@[simp] theorem settleStand_out (n : StandNo) : (settleStand n s).out = s.out := by
  unfold settleStand releaseStandLoad applyStandLoad; split <;> [skip; skip] <;> first | rfl | (split <;> simp)

@[simp] theorem settleStand_resetLow (n : StandNo) : (settleStand n s).resetLow = s.resetLow := by
  unfold settleStand releaseStandLoad applyStandLoad; split <;> [skip; skip] <;> first | rfl | (split <;> simp)

@[simp] theorem settleStand_nodeAddress (n : StandNo) : (settleStand n s).nodeAddress = s.nodeAddress := by
  unfold settleStand releaseStandLoad applyStandLoad; split <;> [skip; skip] <;> first | rfl | (split <;> simp)

@[simp] theorem settleStand_port (n : StandNo) : (settleStand n s).port = s.port := by
  unfold settleStand releaseStandLoad applyStandLoad; split <;> [skip; skip] <;> first | rfl | (split <;> simp)

@[simp] theorem settleStand_windows (n : StandNo) : (settleStand n s).windows = s.windows := by
  unfold settleStand releaseStandLoad applyStandLoad; split <;> [skip; skip] <;> first | rfl | (split <;> simp)

@[simp] theorem settleStand_groups (n : StandNo) : (settleStand n s).groups = s.groups := by
  unfold settleStand releaseStandLoad applyStandLoad; split <;> [skip; skip] <;> first | rfl | (split <;> simp)

@[simp] theorem settleStand_gauges (n : StandNo) : (settleStand n s).gauges = s.gauges := by
  unfold settleStand releaseStandLoad applyStandLoad; split <;> [skip; skip] <;> first | rfl | (split <;> simp)

@[simp] theorem settleStand_paths (n : StandNo) : (settleStand n s).paths = s.paths := by
  unfold settleStand releaseStandLoad applyStandLoad; split <;> [skip; skip] <;> first | rfl | (split <;> simp)

/-! ### `settleGroup` -/

@[simp] theorem settleGroup_pending (g : GroupNo) : (settleGroup g s).pending = s.pending := by
  unfold settleGroup releaseGroupLoad applyGroupLoad; split <;> [skip; skip] <;> first | rfl | (split <;> simp)

@[simp] theorem settleGroup_out (g : GroupNo) : (settleGroup g s).out = s.out := by
  unfold settleGroup releaseGroupLoad applyGroupLoad; split <;> [skip; skip] <;> first | rfl | (split <;> simp)

@[simp] theorem settleGroup_resetLow (g : GroupNo) : (settleGroup g s).resetLow = s.resetLow := by
  unfold settleGroup releaseGroupLoad applyGroupLoad; split <;> [skip; skip] <;> first | rfl | (split <;> simp)

@[simp] theorem settleGroup_nodeAddress (g : GroupNo) : (settleGroup g s).nodeAddress = s.nodeAddress := by
  unfold settleGroup releaseGroupLoad applyGroupLoad; split <;> [skip; skip] <;> first | rfl | (split <;> simp)

@[simp] theorem settleGroup_port (g : GroupNo) : (settleGroup g s).port = s.port := by
  unfold settleGroup releaseGroupLoad applyGroupLoad; split <;> [skip; skip] <;> first | rfl | (split <;> simp)

@[simp] theorem settleGroup_windows (g : GroupNo) : (settleGroup g s).windows = s.windows := by
  unfold settleGroup releaseGroupLoad applyGroupLoad; split <;> [skip; skip] <;> first | rfl | (split <;> simp)

@[simp] theorem settleGroup_stands (g : GroupNo) : (settleGroup g s).stands = s.stands := by
  unfold settleGroup releaseGroupLoad applyGroupLoad; split <;> [skip; skip] <;> first | rfl | (split <;> simp)

@[simp] theorem settleGroup_gauges (g : GroupNo) : (settleGroup g s).gauges = s.gauges := by
  unfold settleGroup releaseGroupLoad applyGroupLoad; split <;> [skip; skip] <;> first | rfl | (split <;> simp)

@[simp] theorem settleGroup_paths (g : GroupNo) : (settleGroup g s).paths = s.paths := by
  unfold settleGroup releaseGroupLoad applyGroupLoad; split <;> [skip; skip] <;> first | rfl | (split <;> simp)

/-! ### `settleGauge` -/

@[simp] theorem settleGauge_pending (g : GaugeNo) : (settleGauge g s).pending = s.pending := by
  unfold settleGauge releaseGaugeLoad applyGaugeLoad; split <;> [skip; skip] <;> first | rfl | (split <;> simp)

@[simp] theorem settleGauge_out (g : GaugeNo) : (settleGauge g s).out = s.out := by
  unfold settleGauge releaseGaugeLoad applyGaugeLoad; split <;> [skip; skip] <;> first | rfl | (split <;> simp)

@[simp] theorem settleGauge_resetLow (g : GaugeNo) : (settleGauge g s).resetLow = s.resetLow := by
  unfold settleGauge releaseGaugeLoad applyGaugeLoad; split <;> [skip; skip] <;> first | rfl | (split <;> simp)

@[simp] theorem settleGauge_nodeAddress (g : GaugeNo) : (settleGauge g s).nodeAddress = s.nodeAddress := by
  unfold settleGauge releaseGaugeLoad applyGaugeLoad; split <;> [skip; skip] <;> first | rfl | (split <;> simp)

@[simp] theorem settleGauge_port (g : GaugeNo) : (settleGauge g s).port = s.port := by
  unfold settleGauge releaseGaugeLoad applyGaugeLoad; split <;> [skip; skip] <;> first | rfl | (split <;> simp)

@[simp] theorem settleGauge_windows (g : GaugeNo) : (settleGauge g s).windows = s.windows := by
  unfold settleGauge releaseGaugeLoad applyGaugeLoad; split <;> [skip; skip] <;> first | rfl | (split <;> simp)

@[simp] theorem settleGauge_stands (g : GaugeNo) : (settleGauge g s).stands = s.stands := by
  unfold settleGauge releaseGaugeLoad applyGaugeLoad; split <;> [skip; skip] <;> first | rfl | (split <;> simp)

@[simp] theorem settleGauge_groups (g : GaugeNo) : (settleGauge g s).groups = s.groups := by
  unfold settleGauge releaseGaugeLoad applyGaugeLoad; split <;> [skip; skip] <;> first | rfl | (split <;> simp)

@[simp] theorem settleGauge_paths (g : GaugeNo) : (settleGauge g s).paths = s.paths := by
  unfold settleGauge releaseGaugeLoad applyGaugeLoad; split <;> [skip; skip] <;> first | rfl | (split <;> simp)

/-! ### `settlePath` -/

@[simp] theorem settlePath_pending (n : StandNo) : (settlePath n s).pending = s.pending := by
  unfold settlePath releasePathLoad applyPathLoad; split <;> [rfl; (split <;> simp)]

@[simp] theorem settlePath_out (n : StandNo) : (settlePath n s).out = s.out := by
  unfold settlePath releasePathLoad applyPathLoad; split <;> [rfl; (split <;> simp)]

@[simp] theorem settlePath_resetLow (n : StandNo) : (settlePath n s).resetLow = s.resetLow := by
  unfold settlePath releasePathLoad applyPathLoad; split <;> [rfl; (split <;> simp)]

@[simp] theorem settlePath_nodeAddress (n : StandNo) : (settlePath n s).nodeAddress = s.nodeAddress := by
  unfold settlePath releasePathLoad applyPathLoad; split <;> [rfl; (split <;> simp)]

@[simp] theorem settlePath_port (n : StandNo) : (settlePath n s).port = s.port := by
  unfold settlePath releasePathLoad applyPathLoad; split <;> [rfl; (split <;> simp)]

@[simp] theorem settlePath_windows (n : StandNo) : (settlePath n s).windows = s.windows := by
  unfold settlePath releasePathLoad applyPathLoad; split <;> [rfl; (split <;> simp)]

@[simp] theorem settlePath_stands (n : StandNo) : (settlePath n s).stands = s.stands := by
  unfold settlePath releasePathLoad applyPathLoad; split <;> [rfl; (split <;> simp)]

@[simp] theorem settlePath_groups (n : StandNo) : (settlePath n s).groups = s.groups := by
  unfold settlePath releasePathLoad applyPathLoad; split <;> [rfl; (split <;> simp)]

@[simp] theorem settlePath_gauges (n : StandNo) : (settlePath n s).gauges = s.gauges := by
  unfold settlePath releasePathLoad applyPathLoad; split <;> [rfl; (split <;> simp)]

/-! ### The instance itself -/

@[simp] theorem markMoved_stand (f : InputField) (b : Bool) (i : StandNo) : (markMoved f b s).stand i = s.stand i := by
  unfold markMoved; split <;> rfl

/-- The load held pending by `settleStand` is no longer held where its condition lets it be applied. -/
theorem settleStand_pendingLoad (n : StandNo) (h : (s.stand n).state.defers = false) : ((settleStand n s).stand n).pendingLoad = none := by
  unfold settleStand releaseStandLoad applyStandLoad
  cases e : (s.stand n).pendingLoad <;> simp [h, e, State.standEvent]

/-- `settleStand` reaches one stand, and of it the table, the loaded condition, the pending load and the monitor. -/
theorem settleStand_stand (n i : StandNo) :
    (i ≠ n → (settleStand n s).stand i = s.stand i) ∧
    ∃ t l p m, (settleStand n s).stand i =
      { s.stand i with table := t, loaded := l, pendingLoad := p, monitor := m } := by
  unfold settleStand releaseStandLoad applyStandLoad
  split <;> (try split) <;> first
    | exact ⟨fun _ => rfl, (s.stand i).table, (s.stand i).loaded, (s.stand i).pendingLoad, (s.stand i).monitor, rfl⟩
    | skip
  all_goals
    by_cases q : n = i
    · subst q; simp [State.standEvent]
    · refine ⟨fun _ => ?_, (s.stand i).table, (s.stand i).loaded, (s.stand i).pendingLoad, (s.stand i).monitor, ?_⟩ <;>
        simp [State.standEvent, State.onStand_stand_ne _ _ _ _ q]

@[simp] theorem markMoved_gauge (f : InputField) (b : Bool) (i : GaugeNo) : (markMoved f b s).gauge i = s.gauge i := by
  unfold markMoved; split <;> rfl

/-- The load held pending by `settleGauge` is no longer held where its condition lets it be applied. -/
theorem settleGauge_pendingLoad (g : GaugeNo) (h : (s.gauge g).state = .idle) : ((settleGauge g s).gauge g).pendingLoad = none := by
  unfold settleGauge releaseGaugeLoad applyGaugeLoad
  cases e : (s.gauge g).pendingLoad <;> simp [h, e]

/-- `settleGauge` reaches one gauge, and of it the table, the loaded condition, the pending load and the monitor. -/
theorem settleGauge_gauge (g i : GaugeNo) :
    (i ≠ g → (settleGauge g s).gauge i = s.gauge i) ∧
    ∃ t l p m, (settleGauge g s).gauge i =
      { s.gauge i with table := t, loaded := l, pendingLoad := p, monitor := m } := by
  unfold settleGauge releaseGaugeLoad applyGaugeLoad
  split <;> (try split) <;> first
    | exact ⟨fun _ => rfl, (s.gauge i).table, (s.gauge i).loaded, (s.gauge i).pendingLoad, (s.gauge i).monitor, rfl⟩
    | skip
  all_goals
    by_cases q : g = i
    · subst q; simp
    · refine ⟨fun _ => ?_, (s.gauge i).table, (s.gauge i).loaded, (s.gauge i).pendingLoad, (s.gauge i).monitor, ?_⟩ <;>
        simp [State.onGauge_gauge_ne _ _ _ _ q]

@[simp] theorem markMoved_group (f : InputField) (b : Bool) (i : GroupNo) : (markMoved f b s).group i = s.group i := by
  unfold markMoved; split <;> rfl

/-- The load held pending by `settleGroup` is no longer held where its condition lets it be applied. -/
theorem settleGroup_pendingLoad (g : GroupNo) (h : (s.group g).holder = .none ∧ (s.group g).tracker = []) : ((settleGroup g s).group g).pendingLoad = none := by
  unfold settleGroup releaseGroupLoad applyGroupLoad
  cases e : (s.group g).pendingLoad <;> simp [h, e]

/-- `settleGroup` reaches one group, and of it the table, the loaded condition, the pending load and the monitor. -/
theorem settleGroup_group (g i : GroupNo) :
    (i ≠ g → (settleGroup g s).group i = s.group i) ∧
    ∃ t l p m, (settleGroup g s).group i =
      { s.group i with table := t, loaded := l, pendingLoad := p, monitor := m } := by
  unfold settleGroup releaseGroupLoad applyGroupLoad
  split <;> (try split) <;> first
    | exact ⟨fun _ => rfl, (s.group i).table, (s.group i).loaded, (s.group i).pendingLoad, (s.group i).monitor, rfl⟩
    | skip
  all_goals
    by_cases q : g = i
    · subst q; simp
    · refine ⟨fun _ => ?_, (s.group i).table, (s.group i).loaded, (s.group i).pendingLoad, (s.group i).monitor, ?_⟩ <;>
        simp [State.onGroup_group_ne _ _ _ _ q]

end Sys2Proof.Machine
end

