-- ==== Sys2Proof/Laws/Faults.lean ====
section
/-!
SUPPORT. What a stand's entry to FAULT does (`enterFault`): the state that the claims call `State.faulted`, then the settling of its
group's pending load (R29, R45, R107, R143).
-/

namespace Sys2Proof.Machine

set_option Elab.async false

variable (s : State)

/-- R45: a stand's pending load applied is what the claims call it. -/
theorem releaseStandLoad_eq (n : StandNo) : releaseStandLoad n s = s.loadReleased n := by
  unfold releaseStandLoad State.loadReleased
  cases h : (s.stand n).pendingLoad with
  | none => rfl
  | some l =>
    by_cases u : s.unjudged (.stand n) = true <;>
      by_cases m : sampleBase (l.over (s.stand n).table) = sampleBase (s.stand n).table <;>
      by_cases w : (s.stand n).loaded = true <;>
      simp_all [State.unjudged, applyStandLoad, markMoved, movedMonitor, monitorAfterLoad, State.standEvent, State.onStand,
        State.stand, State.onFrame, Monitor.initial]

/-- R45: a stand in FAULT has its pending load applied. -/
theorem settleStand_fault {n : StandNo} (h : (s.stand n).state = .fault) : settleStand n s = s.loadReleased n := by
  rw [settleStand, if_neg (by simp [h, StandState.defers]), releaseStandLoad_eq]

/-- R177: raising a flag reads nothing of a stand. -/
theorem raiseFlag_onStand (k : StandFlag) (n : StandNo) (f : Stand → Stand) :
    (s.onStand n f).raiseFlag n k = (s.raiseFlag n k).onStand n f := by
  unfold State.raiseFlag
  by_cases b : maskBit s.responder.table (flagBit k) = true
  · rw [if_pos b]; exact if_pos b
  · rw [if_neg b]; exact if_neg b

/-- R177: the fault flag, at bit 0 of the attention mask. -/
theorem raiseFlag_fault (n : StandNo) :
    s.raiseFlag n .fault =
      if s.responder.table[3].getLsbD 0 then
        s.onResponder fun r => { r with flags := r.flags.set n.val { r.flags[n.val] with fault := true } }
      else s := rfl

/-- R5: giving back a lock reads nothing of the stand but its table. -/
theorem giveBackLock_onStand {n : StandNo} {f : Stand → Stand} (h : (f (s.stand n)).table = (s.stand n).table) :
    giveBackLock n (s.onStand n f) = (giveBackLock n s).onStand n f := by
  have e : (s.onStand n f).groupOf n = s.groupOf n := by simp [State.groupOf, h]
  unfold giveBackLock State.holdsLock
  rw [e]
  split <;> split <;> simp_all; rfl

/-- R5, R109: giving back a lock, by the groups and the stands of a state alone. -/
theorem giveBackLock_eq {n : StandNo} {u : State} (hg : u.groups = s.groups) (hs : u.stands = s.stands) :
    giveBackLock n u =
      if (s.group (s.groupOf n)).holder = .stand n then
        (u.onGroup (s.groupOf n) fun x => { x with holder := .none }).takeEvent .lockReleased (some n)
          (some (.group (s.groupOf n))) none
      else u := by
  by_cases h : (s.group (s.groupOf n)).holder = .stand n <;>
    simp_all [giveBackLock, State.holdsLock, releaseLock, State.group, State.groupOf, State.stand]

/-- R29, R88: the rotation mode that the entry prepares. -/
theorem faultRotation_eq (c : FaultCode) : faultRotation c = if c = .knifeFail then .hold else .brake := by cases c <;> rfl

/-- R29: everything that the entry to FAULT does. -/
theorem enterFault_eq (n : StandNo) (c : FaultCode) :
    enterFault n c s = settleReleased (s.groupOf n) (s.faulted n c) := by
  have event (f : Stand → Stand) : (s.onStand n f).takeEvent (faultEvent c) (some n) none (some (faultNumber c)) =
      (s.takeEvent (faultEvent c) (some n) none (some (faultNumber c))).onStand n f := rfl
  have mask : (s.takeEvent (faultEvent c) (some n) none (some (faultNumber c))).responder.table = s.responder.table := by simp
  unfold enterFault State.faulted
  simp only [event, raiseFlag_onStand]
  rw [giveBackLock_onStand _ (by simp), State.onStand_onStand, settleStand_fault _ (by simp), raiseFlag_fault, mask,
    faultRotation_eq, giveBackLock_eq s]
  · rw [apply_ite State.groups]; exact ite_self _
  · rw [apply_ite State.stands]; exact ite_self _

/-! ### What the entry leaves of the stand and of the groups -/

@[simp] theorem State.loadReleased_groups (n : StandNo) : (s.loadReleased n).groups = s.groups := by
  unfold State.loadReleased; split <;> [rfl; (simp only; split <;> rfl)]

@[simp] theorem State.loadReleased_state (n : StandNo) : ((s.loadReleased n).stand n).state = (s.stand n).state := by
  unfold State.loadReleased; split <;> [rfl; (simp only; split <;> simp)]

@[simp] theorem State.loadReleased_faultCode (n : StandNo) : ((s.loadReleased n).stand n).faultCode = (s.stand n).faultCode := by
  unfold State.loadReleased; split <;> [rfl; (simp only; split <;> simp)]

@[simp] theorem State.faulted_state (n : StandNo) (c : FaultCode) : ((s.faulted n c).stand n).state = .fault := by
  simp only [State.faulted, loadReleased_state, onStand_stand_self]

@[simp] theorem State.faulted_faultCode (n : StandNo) (c : FaultCode) : ((s.faulted n c).stand n).faultCode = some c := by
  simp only [State.faulted, loadReleased_faultCode, onStand_stand_self]

end Sys2Proof.Machine
end

