-- ==== Sys2Proof/Laws/PerInstr.lean ====
section
/-!
SUPPORT. One lemma for each command: what arrives at IN as the frame of a well-formed command, to a part that it reaches, is that
command again (`arrival` reads every row from the frame that spells it).
-/

namespace Sys2Proof.Laws

set_option Elab.async false

open Sys2Proof.Machine

/-- R146, R186: the part with this node address takes the command's frame as the command says: a service frame is addressed to it,
a foreign frame is not a service frame of its own. -/
def Reaches (node : BitVec 4) (i : Instr) : Prop :=
  match i.serviceFrame, i with
  | some f, _ => node ≠ 0 ∧ destination f = node
  | none, .foreignFrame f => ¬(isService f ∧ node ≠ 0 ∧ destination f = node)
  | none, _ => True

/-- The frame that a well-formed command carries arrives as that command. -/
def FrameRow.Statement (i : Instr) : Prop :=
  ∀ (node : BitVec 4) (f : Frame), i.frame = some f → i.wf = true → Reaches node i → arrival node i.plan f = i

/-- A service frame addressed to the part is read by its request kind. -/
theorem arrival_service {node : BitVec 4} {f : Frame} (s : isService f = true) (r : node ≠ 0 ∧ destination f = node) (plan : Plan) :
    arrival node plan f = serviceRow f := by
  have k : frameKind f = 2 := by simpa [isService] using s
  rw [arrival, if_neg (by omega), if_pos ⟨s, r⟩]

/-- The parts of `asks`. -/
theorem asks_spec {f : Frame} {k : Nat} (h : asks f k = true) : isService f = true ∧ requestKind f = some k := by
  simpa [asks] using h

/-- The parts of `loadsTable`. -/
theorem loadsTable_spec {f : Frame} {k : Nat} (h : loadsTable f k = true) :
    isService f = true ∧ requestKind f = some 2 ∧ tableKind f = some k := by
  simpa [loadsTable, asks, and_assoc] using h

/-- The parts of `ordersStand`. -/
theorem ordersStand_spec {f : Frame} {k : Nat} (h : ordersStand f k = true) :
    isService f = true ∧ requestKind f = some 3 ∧ orderKind f = some k := by
  simpa [ordersStand, asks, and_assoc] using h

/-- The parts of `ordersAuto`. -/
theorem ordersAuto_spec {f : Frame} {on : Bool} (h : ordersAuto f on = true) :
    isService f = true ∧ requestKind f = some 3 ∧ orderKind f = some 8 ∧ autoSetting f = some on := by
  simpa [ordersAuto, ordersStand, asks, and_assoc] using h

/-- The parts of `ordersGroup`. -/
theorem ordersGroup_spec {f : Frame} {k : Nat} (h : ordersGroup f k = true) :
    isService f = true ∧ requestKind f = some 4 ∧ orderKind f = some k := by
  simpa [ordersGroup, asks, and_assoc] using h

/-- A request that names no known kind is the row of unknown requests. -/
theorem serviceRow_unknown {f : Frame} (h : unknownToPart f = true) : isService f = true ∧ serviceRow f = .unknownRequest f := by
  unfold unknownToPart at h
  rw [Bool.and_eq_true] at h
  refine ⟨h.1, ?_⟩
  have h := h.2
  unfold serviceRow
  rcases hk : requestKind f with _ | k
  · rfl
  · rw [hk] at h
    match k, h with
    | 0, _ => rfl
    | 1, h => simp at h
    | 2, h =>
      rcases hl : tableKind f with _ | l
      · simp [loadRow, hl]
      · have : 4 < l := by simpa [hl] using h
        obtain ⟨x, rfl⟩ := Nat.exists_eq_add_of_lt this
        simp [loadRow, hl, show 4 + x + 1 = x + 5 by omega]
    | 3, h =>
      rcases hl : orderKind f with _ | l
      · simp [orderRow, hl]
      · have : l = 0 ∨ 11 < l := by simpa [hl] using h
        rcases this with rfl | this
        · simp [orderRow, hl]
        · obtain ⟨x, rfl⟩ := Nat.exists_eq_add_of_lt this
          simp [orderRow, hl, show 11 + x + 1 = x + 12 by omega]
    | 4, h =>
      rcases hl : orderKind f with _ | l
      · simp [groupOrderRow, hl]
      · have : l = 0 ∨ 2 < l := by simpa [hl] using h
        rcases this with rfl | this
        · simp [groupOrderRow, hl]
        · obtain ⟨x, rfl⟩ := Nat.exists_eq_add_of_lt this
          simp [groupOrderRow, hl, show 2 + x + 1 = x + 3 by omega]
    | 5, h => simp at h
    | 6, h => simp at h
    | 7, h => simp at h
    | 8, h => simp at h
    | 9, h => simp at h
    | _ + 10, _ => rfl

namespace FrameRow

theorem cycleFrame (f : Frame) (plan : Plan) : Statement (.cycleFrame f plan) := by
  intro node g hf hw _
  obtain rfl : f = g := by simpa [Instr.frame, Instr.serviceFrame] using hf
  have k : frameKind f = 1 := by simpa [Instr.wf] using hw
  simp [arrival, k, Instr.plan]

theorem foreignFrame (f : Frame) : Statement (.foreignFrame f) := by
  intro node g hf hw r
  obtain rfl : f = g := by simpa [Instr.frame, Instr.serviceFrame] using hf
  have k : frameKind f ≠ 1 := by simpa [Instr.wf] using hw
  have r : ¬(isService f ∧ node ≠ 0 ∧ destination f = node) := by simpa [Reaches, Instr.serviceFrame] using r
  rw [arrival, if_neg k, if_neg r]

theorem ringLossTimerExpiry (order : List LossOwner) : Statement (.ringLossTimerExpiry order) := by
  intro node g hf
  simp [Instr.frame, Instr.serviceFrame] at hf

theorem resetAssert : Statement (.resetAssert) := by
  intro node g hf
  simp [Instr.frame, Instr.serviceFrame] at hf

theorem resetRelease (straps : BitVec 4) : Statement (.resetRelease straps) := by
  intro node g hf
  simp [Instr.frame, Instr.serviceFrame] at hf

theorem readTable (f : Frame) : Statement (.readTable f) := by
  intro node g hf hw r
  obtain rfl : f = g := by simpa [Instr.frame, Instr.serviceFrame] using hf
  obtain ⟨s, k⟩ := asks_spec hw
  rw [arrival_service s r]
  simp [serviceRow, k]

theorem loadTablePart (f : Frame) : Statement (.loadTablePart f) := by
  intro node g hf hw r
  obtain rfl : f = g := by simpa [Instr.frame, Instr.serviceFrame] using hf
  obtain ⟨s, k, l⟩ := loadsTable_spec hw
  rw [arrival_service s r]
  simp [serviceRow, loadRow, k, l]

theorem loadTableStand (f : Frame) : Statement (.loadTableStand f) := by
  intro node g hf hw r
  obtain rfl : f = g := by simpa [Instr.frame, Instr.serviceFrame] using hf
  obtain ⟨s, k, l⟩ := loadsTable_spec hw
  rw [arrival_service s r]
  simp [serviceRow, loadRow, k, l]

theorem loadTablePath (f : Frame) : Statement (.loadTablePath f) := by
  intro node g hf hw r
  obtain rfl : f = g := by simpa [Instr.frame, Instr.serviceFrame] using hf
  obtain ⟨s, k, l⟩ := loadsTable_spec hw
  rw [arrival_service s r]
  simp [serviceRow, loadRow, k, l]

theorem loadTableGroup (f : Frame) : Statement (.loadTableGroup f) := by
  intro node g hf hw r
  obtain rfl : f = g := by simpa [Instr.frame, Instr.serviceFrame] using hf
  obtain ⟨s, k, l⟩ := loadsTable_spec hw
  rw [arrival_service s r]
  simp [serviceRow, loadRow, k, l]

theorem loadTableGauge (f : Frame) : Statement (.loadTableGauge f) := by
  intro node g hf hw r
  obtain rfl : f = g := by simpa [Instr.frame, Instr.serviceFrame] using hf
  obtain ⟨s, k, l⟩ := loadsTable_spec hw
  rw [arrival_service s r]
  simp [serviceRow, loadRow, k, l]

theorem enable (f : Frame) : Statement (.enable f) := by
  intro node g hf hw r
  obtain rfl : f = g := by simpa [Instr.frame, Instr.serviceFrame] using hf
  obtain ⟨s, k, l⟩ := ordersStand_spec hw
  rw [arrival_service s r]
  simp [serviceRow, orderRow, k, l]

theorem disable (f : Frame) : Statement (.disable f) := by
  intro node g hf hw r
  obtain rfl : f = g := by simpa [Instr.frame, Instr.serviceFrame] using hf
  obtain ⟨s, k, l⟩ := ordersStand_spec hw
  rw [arrival_service s r]
  simp [serviceRow, orderRow, k, l]

theorem park (f : Frame) : Statement (.park f) := by
  intro node g hf hw r
  obtain rfl : f = g := by simpa [Instr.frame, Instr.serviceFrame] using hf
  obtain ⟨s, k, l⟩ := ordersStand_spec hw
  rw [arrival_service s r]
  simp [serviceRow, orderRow, k, l]

theorem resume (f : Frame) : Statement (.resume f) := by
  intro node g hf hw r
  obtain rfl : f = g := by simpa [Instr.frame, Instr.serviceFrame] using hf
  obtain ⟨s, k, l⟩ := ordersStand_spec hw
  rw [arrival_service s r]
  simp [serviceRow, orderRow, k, l]

theorem mount (f : Frame) : Statement (.mount f) := by
  intro node g hf hw r
  obtain rfl : f = g := by simpa [Instr.frame, Instr.serviceFrame] using hf
  obtain ⟨s, k, l⟩ := ordersStand_spec hw
  rw [arrival_service s r]
  simp [serviceRow, orderRow, k, l]

theorem unmount (f : Frame) : Statement (.unmount f) := by
  intro node g hf hw r
  obtain rfl : f = g := by simpa [Instr.frame, Instr.serviceFrame] using hf
  obtain ⟨s, k, l⟩ := ordersStand_spec hw
  rw [arrival_service s r]
  simp [serviceRow, orderRow, k, l]

theorem range (f : Frame) : Statement (.range f) := by
  intro node g hf hw r
  obtain rfl : f = g := by simpa [Instr.frame, Instr.serviceFrame] using hf
  obtain ⟨s, k, l⟩ := ordersStand_spec hw
  rw [arrival_service s r]
  simp [serviceRow, orderRow, k, l]

theorem autoOn (f : Frame) : Statement (.autoOn f) := by
  intro node g hf hw r
  obtain rfl : f = g := by simpa [Instr.frame, Instr.serviceFrame] using hf
  obtain ⟨s, k, l, a⟩ := ordersAuto_spec hw
  rw [arrival_service s r]
  simp [serviceRow, orderRow, autoRow, k, l, a]

theorem autoOff (f : Frame) : Statement (.autoOff f) := by
  intro node g hf hw r
  obtain rfl : f = g := by simpa [Instr.frame, Instr.serviceFrame] using hf
  obtain ⟨s, k, l, a⟩ := ordersAuto_spec hw
  rw [arrival_service s r]
  simp [serviceRow, orderRow, autoRow, k, l, a]

theorem spliceNow (f : Frame) : Statement (.spliceNow f) := by
  intro node g hf hw r
  obtain rfl : f = g := by simpa [Instr.frame, Instr.serviceFrame] using hf
  obtain ⟨s, k, l⟩ := ordersStand_spec hw
  rw [arrival_service s r]
  simp [serviceRow, orderRow, k, l]

theorem abort (f : Frame) : Statement (.abort f) := by
  intro node g hf hw r
  obtain rfl : f = g := by simpa [Instr.frame, Instr.serviceFrame] using hf
  obtain ⟨s, k, l⟩ := ordersStand_spec hw
  rw [arrival_service s r]
  simp [serviceRow, orderRow, k, l]

theorem clearFault (f : Frame) : Statement (.clearFault f) := by
  intro node g hf hw r
  obtain rfl : f = g := by simpa [Instr.frame, Instr.serviceFrame] using hf
  obtain ⟨s, k, l⟩ := ordersStand_spec hw
  rw [arrival_service s r]
  simp [serviceRow, orderRow, k, l]

theorem groupOrderHold (f : Frame) : Statement (.groupOrderHold f) := by
  intro node g hf hw r
  obtain rfl : f = g := by simpa [Instr.frame, Instr.serviceFrame] using hf
  obtain ⟨s, k, l⟩ := ordersGroup_spec hw
  rw [arrival_service s r]
  simp [serviceRow, groupOrderRow, k, l]

theorem groupOrderRelease (f : Frame) : Statement (.groupOrderRelease f) := by
  intro node g hf hw r
  obtain rfl : f = g := by simpa [Instr.frame, Instr.serviceFrame] using hf
  obtain ⟨s, k, l⟩ := ordersGroup_spec hw
  rw [arrival_service s r]
  simp [serviceRow, groupOrderRow, k, l]

theorem readStand (f : Frame) : Statement (.readStand f) := by
  intro node g hf hw r
  obtain rfl : f = g := by simpa [Instr.frame, Instr.serviceFrame] using hf
  obtain ⟨s, k⟩ := asks_spec hw
  rw [arrival_service s r]
  simp [serviceRow, k]

theorem readTracker (f : Frame) : Statement (.readTracker f) := by
  intro node g hf hw r
  obtain rfl : f = g := by simpa [Instr.frame, Instr.serviceFrame] using hf
  obtain ⟨s, k⟩ := asks_spec hw
  rw [arrival_service s r]
  simp [serviceRow, k]

theorem takeEvents (f : Frame) : Statement (.takeEvents f) := by
  intro node g hf hw r
  obtain rfl : f = g := by simpa [Instr.frame, Instr.serviceFrame] using hf
  obtain ⟨s, k⟩ := asks_spec hw
  rw [arrival_service s r]
  simp [serviceRow, k]

theorem clearAttention (f : Frame) : Statement (.clearAttention f) := by
  intro node g hf hw r
  obtain rfl : f = g := by simpa [Instr.frame, Instr.serviceFrame] using hf
  obtain ⟨s, k⟩ := asks_spec hw
  rw [arrival_service s r]
  simp [serviceRow, k]

theorem restartPart (f : Frame) : Statement (.restartPart f) := by
  intro node g hf hw r
  obtain rfl : f = g := by simpa [Instr.frame, Instr.serviceFrame] using hf
  obtain ⟨s, k⟩ := asks_spec hw
  rw [arrival_service s r]
  simp [serviceRow, k]

theorem unknownRequest (f : Frame) : Statement (.unknownRequest f) := by
  intro node g hf hw r
  obtain rfl : f = g := by simpa [Instr.frame, Instr.serviceFrame] using hf
  obtain ⟨s, k⟩ := serviceRow_unknown hw
  rw [arrival_service s r]
  simp [k]

theorem automaticTrigger (n : StandNo) : Statement (.automaticTrigger n) := by
  intro node g hf
  simp [Instr.frame, Instr.serviceFrame] at hf

theorem lockGrant (g : GroupNo) : Statement (.lockGrant g) := by
  intro node g hf
  simp [Instr.frame, Instr.serviceFrame] at hf

theorem forcedStart (n : StandNo) : Statement (.forcedStart n) := by
  intro node g hf
  simp [Instr.frame, Instr.serviceFrame] at hf

theorem pastingAdvanceEntry (n : StandNo) : Statement (.pastingAdvanceEntry n) := by
  intro node g hf
  simp [Instr.frame, Instr.serviceFrame] at hf

theorem pasteInstant (n : StandNo) : Statement (.pasteInstant n) := by
  intro node g hf
  simp [Instr.frame, Instr.serviceFrame] at hf

theorem pasteConfirm (n : StandNo) : Statement (.pasteConfirm n) := by
  intro node g hf
  simp [Instr.frame, Instr.serviceFrame] at hf

theorem spliceCompletion (n : StandNo) : Statement (.spliceCompletion n) := by
  intro node g hf
  simp [Instr.frame, Instr.serviceFrame] at hf

theorem matchDeadline (n : StandNo) : Statement (.matchDeadline n) := by
  intro node g hf
  simp [Instr.frame, Instr.serviceFrame] at hf

theorem advanceDeadline (n : StandNo) : Statement (.advanceDeadline n) := by
  intro node g hf
  simp [Instr.frame, Instr.serviceFrame] at hf

theorem confirmDeadline (n : StandNo) : Statement (.confirmDeadline n) := by
  intro node g hf
  simp [Instr.frame, Instr.serviceFrame] at hf

theorem knifeTimeout (n : StandNo) : Statement (.knifeTimeout n) := by
  intro node g hf
  simp [Instr.frame, Instr.serviceFrame] at hf

theorem gaugeMeasureStart (g : GaugeNo) : Statement (.gaugeMeasureStart g) := by
  intro node g hf
  simp [Instr.frame, Instr.serviceFrame] at hf

theorem gaugeResult (g : GaugeNo) : Statement (.gaugeResult g) := by
  intro node g hf
  simp [Instr.frame, Instr.serviceFrame] at hf

theorem gaugeMeasureTimeout (g : GaugeNo) : Statement (.gaugeMeasureTimeout g) := by
  intro node g hf
  simp [Instr.frame, Instr.serviceFrame] at hf

theorem gaugeCancelEnd (g : GaugeNo) : Statement (.gaugeCancelEnd g) := by
  intro node g hf
  simp [Instr.frame, Instr.serviceFrame] at hf

theorem gaugeCancelTimeout (g : GaugeNo) : Statement (.gaugeCancelTimeout g) := by
  intro node g hf
  simp [Instr.frame, Instr.serviceFrame] at hf

theorem samplesStale (f : InputField) : Statement (.samplesStale f) := by
  intro node g hf
  simp [Instr.frame, Instr.serviceFrame] at hf

theorem holdCheckpoint (n : StandNo) : Statement (.holdCheckpoint n) := by
  intro node g hf
  simp [Instr.frame, Instr.serviceFrame] at hf

theorem rejectPoint (n : StandNo) : Statement (.rejectPoint n) := by
  intro node g hf
  simp [Instr.frame, Instr.serviceFrame] at hf

theorem clearancePoint (n : StandNo) : Statement (.clearancePoint n) := by
  intro node g hf
  simp [Instr.frame, Instr.serviceFrame] at hf

theorem standTablePendingApply (n : StandNo) : Statement (.standTablePendingApply n) := by
  intro node g hf
  simp [Instr.frame, Instr.serviceFrame] at hf

theorem gaugeTablePendingApply (g : GaugeNo) : Statement (.gaugeTablePendingApply g) := by
  intro node g hf
  simp [Instr.frame, Instr.serviceFrame] at hf

theorem pathTablePendingApply (n : StandNo) : Statement (.pathTablePendingApply n) := by
  intro node g hf
  simp [Instr.frame, Instr.serviceFrame] at hf

theorem groupTablePendingApply (g : GroupNo) : Statement (.groupTablePendingApply g) := by
  intro node g hf
  simp [Instr.frame, Instr.serviceFrame] at hf

end FrameRow

end Sys2Proof.Laws
end

