-- ==== Sys2Proof/Laws/Requests.lean ====
section
/-!
SUPPORT. What the operations that take a service request can do: `serve`, the request areas, `standOrder`, `loadRequest` and
`settleLoad`. Each lemma says it once, so that no later proof unfolds the operation.
-/

namespace Sys2Proof.Machine

set_option Elab.async false

/-! ### Numbers and slots -/

/-- A stand's own number names it. -/
@[simp] theorem standOf_val (n : StandNo) : standOf n.val = some n := by simp [standOf]

/-- A group's or gauge's own number names it. -/
@[simp] theorem groupOfNumber_val (g : GroupNo) : groupOfNumber g.val = some g := by simp [groupOfNumber]

/-- A number names no stand exactly outside 0 to 7. -/
theorem standOf_eq_none {k : Nat} : standOf k = none ↔ 8 ≤ k := by
  unfold standOf; split <;> simp <;> omega

/-- A number names no group or gauge exactly outside 0 to 3. -/
theorem groupOfNumber_eq_none {k : Nat} : groupOfNumber k = none ↔ 4 ≤ k := by
  unfold groupOfNumber; split <;> simp <;> omega

/-- A slot of the request area is a slot of the frame. -/
theorem slotAt_take {ws : List Word} {len i : Nat} (h : i < len) : slotAt (ws.take len) i = slotAt ws i := by
  simp [slotAt, List.getD_eq_getElem?_getD, h]

/-- A frame that is asked has its request area. -/
theorem requestArea_asked {s : State} {f : Frame} {len : Nat} (h : s.asked f len) :
    requestArea f = some (f.slots.take len) := by
  obtain ⟨-, rfl, h, -, -⟩ := h
  simp [requestArea, h]

/-- The request area of a frame that is asked has its length. -/
theorem length_take_asked {s : State} {f : Frame} {len : Nat} (h : s.asked f len) : (f.slots.take len).length = len := by
  obtain ⟨-, -, h, -, -⟩ := h
  exact List.length_take_of_le h

/-- R169: an area of the right length is handed on. -/
theorem withArea_asked {s t : State} {f : Frame} {len : Nat} (h : s.asked f len) (k : List Word → Answer) :
    withArea f len t k = k (f.slots.take len) := by
  simp only [withArea, requestArea_asked h, length_take_asked h, if_true]

/-- R169: an area of the wrong length, or one that does not lie within the frame, is refused with RANGE. -/
theorem withArea_bad {f : Frame} {len : Nat} (h : requestLength f ≠ len ∨ slotCount f < requestLength f) (s : State)
    (k : List Word → Answer) : withArea f len s k = refuse .range s := by
  unfold withArea requestArea
  by_cases w : requestLength f ≤ slotCount f
  · have l : (f.slots.take (requestLength f)).length = requestLength f := List.length_take_of_le w
    have e : requestLength f ≠ len := h.resolve_right (by omega)
    simp [w, l, e]
  · simp [w]

/-! ### serve (R168) -/

/-- A frame that the part does not hear, or that has no reply area, leaves as it arrived. -/
theorem serve_passes {f : Frame} {s : State} (h : s.hears f = false ∨ replyRoom f = 0) (act : State → Answer) :
    serve f s act = { s with out := some f } := by
  rcases h with h | h <;> simp [serve, emit, h]

/-- R164: a frame that the part hears, with a reply area, is taken from the state that the last frame's whole work leaves. -/
theorem serve_finished {f : Frame} {s : State} (h : s.hears f) (r : replyRoom f ≠ 0) (act : State → Answer) :
    serve f s act =
      let t := finishFrame s
      if replyRoom f < 1 + (act t).payload.length then t.answered f .range []
      else { (act t).state with out := some (writeReply f (statusSlot (act t).status :: (act t).payload)) } := by
  simp [serve, emit, h, r]

/-- With no work due: RANGE where the reply does not fit, else the answer. -/
theorem serve_hears {f : Frame} {s : State} (h : s.hears f) (r : replyRoom f ≠ 0) (d : s.frame.due = []) (act : State → Answer) :
    serve f s act =
      if replyRoom f < 1 + (act s).payload.length then s.answered f .range []
      else { (act s).state with out := some (writeReply f (statusSlot (act s).status :: (act s).payload)) } := by
  simp [serve_finished h r, finishFrame_idle d]

/-- A refusal is answered with its code, all else as it stands. -/
theorem serve_refuse {f : Frame} {s : State} (h : s.hears f) (r : replyRoom f ≠ 0) (d : s.frame.due = []) {act : State → Answer} {c : ReplyStatus}
    (a : act s = refuse c s) : serve f s act = s.answered f c [] := by
  have : ¬replyRoom f < 1 := by omega
  rw [serve_hears h r d, a]; simp [refuse, this]

/-- A request taken with an empty payload is answered DONE with its effects in place. -/
theorem serve_taken {f : Frame} {s t : State} (h : s.hears f) (r : replyRoom f ≠ 0) (d : s.frame.due = []) {act : State → Answer}
    (a : act s = taken t) : serve f s act = t.answered f .done [] := by
  have : ¬replyRoom f < 1 := by omega
  rw [serve_hears h r d, a]; simp [taken, this]

/-! ### Stand orders and table loads -/

/-- R9: an order with its area and a stand in range is handed to the stand. -/
theorem standOrder_ordered {s t : State} {f : Frame} {len : Nat} {n : StandNo} (h : s.ordered f len n) (l : 2 ≤ len)
    (act : List Word → StandNo → State → Answer) : standOrder f len act t = act (f.slots.take len) n t := by
  obtain ⟨h, e⟩ := h
  rw [standOrder, withArea_asked h, slotAt_take (by omega), e, standOf_val]

/-- R169: a load whose area matches the values it names is handed on with its instance and its run. -/
theorem loadRequest_asked {s t : State} {f : Frame} {l : Load} (h : s.asked f (2 + l.values.length))
    (c : runCount (slotAt f.slots 1) = l.values.length) (b : bits (slotAt f.slots 1) 16 8 = l.first)
    (v : (f.slots.drop 2).take l.values.length = l.values) (act : Nat → Load → Answer) :
    loadRequest f t act = act (bits (slotAt f.slots 1) 8 4) l := by
  have d : (f.slots.take (2 + l.values.length)).drop 2 = l.values := by rw [List.drop_take]; simpa using v
  simp only [loadRequest, requestArea_asked h, length_take_asked h, slotAt_take (show 1 < 2 + l.values.length by omega), c, loadOf, b, d]
  simp

/-- A load that its owner refuses. -/
@[simp] theorem settleLoad_refused (c : ReplyStatus) (o : Bool) (a k s : State) : settleLoad (some c) o a k s = refuse c s := rfl

/-- A load that its owner applies at once. -/
@[simp] theorem settleLoad_applied (a k s : State) : settleLoad none true a k s = taken a := rfl

/-- A load that its owner keeps pending. -/
@[simp] theorem settleLoad_kept (a k s : State) :
    settleLoad none false a k s = { status := .held, payload := [], state := k } := rfl

end Sys2Proof.Machine
end

