-- ==== Sys2Proof/Tests/Slice0.lean ====
section
/-!
SUPPORT. Tests: well-formedness and the reading of frames, one small step of each command, and for each obligation with
hypotheses a state and operands that meet them. Expected values come from the worked cases of chapters 3, 4, 7 and 11 and from the
layouts of chapter 10.
-/

namespace Sys2Proof.Tests

set_option Elab.async false

open Sys2Proof.Machine

/-! ### Frames -/

/-- A service frame to node 1 with this request area and a reply area of `room` slots. -/
def ask (ws : List Word) (room : Nat := 2) : Frame :=
  { head0 := 0x02010000 + BitVec.ofNat 32 ws.length, head1 := BitVec.ofNat 32 room, head2 := 0
    slots := ws ++ List.replicate room 0 }

/-- A STAND ORDER of this kind for stand 2. -/
def order (kind : Nat) : Frame := ask [3, BitVec.ofNat 32 (kind * 256 + 2)]

/-- AUTO ON for stand 2. -/
def orderAutoOn : Frame := ask [3, 0x00010802]

/-- MOUNT for stand 2, diameter 12500 and ident AB. -/
def orderMount : Frame := ask [3, 0x00000502, 0x00000205, 0, 12500, 0x4241, 0, 0]

/-- LOAD TABLE of this kind and instance: these values from the entry `first` on. -/
def load (kind inst first : Nat) (vs : List Word) : Frame :=
  ask ([2, BitVec.ofNat 32 (kind + inst * 256 + first * 65536 + (vs.length % 16) * 16777216)] ++ vs)

/-- A cycle frame with this ring time, of 200 slots, cycle number 8 and period 1000. -/
def cycle (time : Nat) : Frame :=
  { head0 := 0x01000008, head1 := BitVec.ofNat 32 time, head2 := 1000, slots := List.replicate 200 0 }

/-- The status of the reply in the frame at OUT, for a request area of `len` slots. -/
def replyStatus (len : Nat) (s : State) : Option Nat := s.out.map fun f => bits (slotAt f.slots len) 0 8

/-- What a command leaves. -/
def after (c : Instr) (s : State) : State :=
  match exec c s with
  | .next t => t
  | .fault _ => s
  | .refused _ => s

/-! ### States -/

/-- Values written over a table. -/
def patch {k : Nat} (t : Vector Word k) (vs : List (Nat × Word)) : Vector Word k :=
  vs.foldl (fun t v => t.setIfInBounds v.1 v.2) t

/-- The machine at ring time 5,000,000 with the tables of the worked splice of stand 2 (chapters 4 and 7): group 1, gauge 0. -/
def base : State :=
  let s : State :=
    { State.reset with
      port := { Port.powerOn with last := some ⟨5000000, 7, 1000⟩, ring := .up, timer := some 8000 } }
  let s := s.onStand 2 fun st =>
    { st with table := patch st.table [(0, 1), (1, 0), (2, 100), (3, 40), (12, 50), (17, 60), (18, 3000)], loaded := true }
  let s := s.onPath 2 fun p =>
    { p with
      table := patch p.table [(0, 3), (1, 300000), (2, 0), (3, 140), (4, 20000), (5, 650000), (6, 0), (7, 141), (8, 20000),
        (9, 1200000)]
      loaded := true }
  let s := s.onGroup 1 fun g => { g with table := patch g.table [(0, 130), (1, 60)], loaded := true }
  s.onGauge 0 fun g => { g with table := patch g.table [(0, 120), (1, 50)], loaded := true }

/-- The accepted sample of the worked paste at its paste instant (chapter 4). -/
def sample : StandSample :=
  { time := 5000000, webSpeed := 10000, length := 1000000000, revolutions := 6, latched := 28263, angle := 468
    angleOffset := 350, rate := 2559, markCount := 40, markAngle := 100, confirmCount := 17, knifeCount := 9, ready := true
    web := true, arm := .pastePosition }

/-- The new reel of the worked splice. -/
def reel : NewReel := { ident := none, caliper := 80, diameter := some ⟨12500, .gauge⟩, mark := some 812, mountTime := 0 }

/-- The expiring reel of the worked case of chapter 3 after its row S5. -/
def old : ExpiringReel :=
  { ident := none, caliper := 80, origin := .threaded, estimate := some ⟨1734, 1292722, .ms 12927⟩, lastRevolution := 6
    lastLatched := 28263, lowReported := false }

/-- The paste schedule of the worked splice, its times relative to Tp = 5,000,000. -/
def schedule : PasteSchedule :=
  { matchCount := 15, markCount := 1, lastMark := some 805, markReference := 41, matchDeadline := 5000000
    advanceDeadline := some 5000000, contactTime := some 5143457, brushTime := some 5103457, confirmDeadline := some 5925011
    confirmReference := some 17, knifeTime := some 5223457, knifeReference := some 9 }

/-- The tracker entry of the worked splice (chapter 4, the confirm). -/
def entry : Entry :=
  { stand := 2, ident := none, contactTime := 5143457, contactLength := 1000014310, forced := false, holdsLock := true
    next := 0, rejectIssued := false, copies := none }

/-- The worked stand in one of its states, with the records that the state has. -/
def standIn (x : StandState) (st : Stand) : Stand :=
  { st with
    state := x, faultCode := if x = .fault then some .pasteMiss else none
    newReel :=
      if x = .running then none
      else if x = .loaded ∨ x = .ranging then some { reel with diameter := none, mark := none }
      else some reel
    expiring := some old, schedule := if x.splices then some schedule else none
    rotation := if x.splices then .accel else .brake, rotationRef := if x.splices then 2559 else 0
    arm := if x.isPasting then .advance else .retract
    brushAt := if x = .pasting .brush then some 5103457 else none
    knifeAt := if x = .pasting .cut then some 5223457 else none
    monitor := { history := some 3, held := some sample, staleCount := 0, stale := false } }

/-- The machine with the worked stand in one of its states, holder, waiting set, list and queue as that state has them. -/
def inState (x : StandState) : State :=
  let s := base.onStand 2 (standIn x)
  let s := if x.mayHold then s.onGroup 1 (fun g => { g with holder := .stand 2 }) else s
  let s := if x = .pasting .cut then s.onGroup 1 (fun g => { g with holder := .entry 2, tracker := [entry] }) else s
  let s := if x = .waiting then joinWaiting 2 s else s
  if x = .ranging then joinQueue 0 2 s else s

/-- The ten states, PASTING in each phase. -/
def states : List StandState :=
  [.offline, .parked, .running, .loaded, .ranging, .ready, .waiting, .accelerating, .pasting .advance, .pasting .brush,
    .pasting .cut, .fault]

/-- The stand's held sample replaced. -/
def hold (v : StandSample) (s : State) : State :=
  s.onStand 2 fun st => { st with monitor := { st.monitor with held := some v } }

/-- A gauge sample held by gauge 0. -/
def holdGauge (v : GaugeSample) (s : State) : State :=
  s.onGauge 0 fun u => { u with monitor := { u.monitor with held := some v } }

/-- One piece of the frame's work due, with the fields of stand 2 and gauge 0 accepted at this frame. -/
def due (w : Work) (s : State) : State :=
  { s with frame := { s.frame with handed := [], fresh := [.stand 2, .gauge 0], due := [w] } }

/-- A load of brush latency 45, held pending. -/
def latencyLoad : Load := { first := 20, values := [45] }

/-- A result of gauge 0 for the distance 3750 (chapter 6). -/
def result : GaugeSample := { busy := false, completed := 1, valid := true, distance := 3750 }

/-- Gauge 0 measuring stand 2 under sequence value 1. -/
def measuring : State :=
  (base.onStand 2 (standIn .ranging)).onGauge 0 fun u => { u with state := .measuring 2 8000000, sequence := 1 }

/-- Gauge 0 cancelling. -/
def cancelling : State := base.onGauge 0 fun u => { u with state := .cancelling 8000000, sequence := 1 }

/-- The worked stand after the knife, its entry on its way, the web length count at `count`. -/
def tracked (e : Entry) (count : Nat) : State :=
  hold { sample with length := BitVec.ofNat 32 count }
    ((base.onStand 2 (standIn .running)).onGroup 1 fun g => { g with holder := .entry 2, tracker := [e] })

/-- The events in the queue: kind, stand, unit, detail. -/
def events (s : State) : List (EventKind × Option StandNo × Option EventUnit × Option Nat) :=
  s.responder.events.map fun e => (e.kind, e.stand, e.unit, e.detail)

/-! ### Well-formedness: each check refuses a frame that spells another row -/

theorem test_wf_refuses_kinds :
    ([.cycleFrame (order 1) {}, .foreignFrame (cycle 1), .readTable (ask [2, 0]), .readStand (ask [6, 0]), .readTracker (ask [5, 0]),
      .takeEvents (ask [8, 1, 0]), .clearAttention (ask [7, 1]), .restartPart (ask [1, 0]),
      .unknownRequest (ask [9])] : List Instr).all (fun c => !c.wf) := by decide +kernel

theorem test_wf_refuses_loads :
    ([.loadTablePart (load 1 0 0 [0]), .loadTableStand (load 0 0 0 [0]), .loadTablePath (load 3 0 0 [0]),
      .loadTableGroup (load 2 0 0 [0]), .loadTableGauge (load 5 0 0 [0])] : List Instr).all (fun c => !c.wf) := by decide +kernel

theorem test_wf_refuses_orders :
    ([.enable (order 2), .disable (order 1), .park (order 4), .resume (order 3), .mount (order 6), .unmount orderMount,
      .range (order 8), .autoOn (order 8), .autoOff orderAutoOn, .spliceNow (order 10), .abort (order 9), .clearFault (order 12),
      .groupOrderHold (ask [4, 0x201]), .groupOrderRelease (ask [4, 0x101])] : List Instr).all (fun c => !c.wf) := by
  decide +kernel

theorem test_wf_unknown :
    ([.unknownRequest (ask [10, 0]), .unknownRequest (ask []), .unknownRequest (load 5 0 0 [0]), .unknownRequest (order 12),
      .unknownRequest (ask [4, 0x301])] : List Instr).all (·.wf) ∧
    ([.unknownRequest (order 11), .unknownRequest (load 4 0 0 [0]), .unknownRequest (ask [4, 0x201])] : List Instr).all
      (fun c => !c.wf) := by decide +kernel

/-! ### Frames read (R185, R190, R191), their words written out from the layouts -/

theorem test_arrival_cycle :
    arrival 1 {} ⟨0x0100abcd, 7, 1000, []⟩ = .cycleFrame ⟨0x0100abcd, 7, 1000, []⟩ {} ∧
    frameCycle ⟨0x0100abcd, 7, 1000, []⟩ = 0xabcd ∧ framePeriod ⟨0x0100abcd, 7, 1000, []⟩ = 1000 := by decide +kernel

theorem test_arrival_foreign :
    arrival 1 {} ⟨0x02020002, 1, 0, [3, 0x102, 0]⟩ = .foreignFrame ⟨0x02020002, 1, 0, [3, 0x102, 0]⟩ ∧
    arrival 0 {} ⟨0x02000002, 1, 0, [3, 0x102, 0]⟩ = .foreignFrame ⟨0x02000002, 1, 0, [3, 0x102, 0]⟩ ∧
    arrival 1 {} ⟨0x03010002, 1, 0, [3, 0x102, 0]⟩ = .foreignFrame ⟨0x03010002, 1, 0, [3, 0x102, 0]⟩ := by decide +kernel

theorem test_arrival_enable :
    arrival 1 {} ⟨0x02010002, 1, 0, [3, 0x102, 0]⟩ = .enable ⟨0x02010002, 1, 0, [3, 0x102, 0]⟩ := by decide +kernel

theorem test_arrival_auto :
    arrival 15 {} ⟨0x020f0002, 1, 0, [3, 0x10807, 0]⟩ = .autoOn ⟨0x020f0002, 1, 0, [3, 0x10807, 0]⟩ ∧
    arrival 15 {} ⟨0x020f0002, 1, 0, [3, 0x00807, 0]⟩ = .autoOff ⟨0x020f0002, 1, 0, [3, 0x00807, 0]⟩ := by decide +kernel

theorem test_arrival_load :
    arrival 1 {} ⟨0x02010003, 1, 0, [2, 0x01140201, 45, 0]⟩ = .loadTableStand ⟨0x02010003, 1, 0, [2, 0x01140201, 45, 0]⟩ ∧
    runCount 0x01140201 = 1 ∧ runCount 0x00140201 = 16 := by decide +kernel

theorem test_arrival_requests :
    (arrival 1 {} (ask [1, 0]), arrival 1 {} (ask [4, 0x101]), arrival 1 {} (ask [5, 2]), arrival 1 {} (ask [7, 8]),
      arrival 1 {} (ask [8, 0, 0]), arrival 1 {} (ask [9]), arrival 1 {} (ask [10])) =
    (.readTable (ask [1, 0]), .groupOrderHold (ask [4, 0x101]), .readStand (ask [5, 2]), .takeEvents (ask [7, 8]),
      .clearAttention (ask [8, 0, 0]), .restartPart (ask [9]), .unknownRequest (ask [10])) := by decide +kernel

/-! ### One step of each command: frames and pins -/

/-- R147, R188: an accepted frame carries the command field of stand 2 at slot 40. -/
theorem test_cycleFrame_accepted :
    let t := after (.cycleFrame (cycle 5001000) {}) (inState .accelerating)
    t.port.last = some ⟨5001000, 8, 1000⟩ ∧
    t.out.map (fun f => (f.slots.drop 40).take 6) = some [0x101, 2559, 0, 0, 0, 0] := by decide +kernel

/-- R148: a ring time that is not later is refused, with TIME_BACK. -/
theorem test_cycleFrame_refused :
    let t := after (.cycleFrame (cycle 5000000) {}) base
    t.port.timeBack = true ∧ events t = [(.timeBack, none, none, none)] ∧ t.port.last = base.port.last := by decide +kernel

theorem test_foreignFrame : (after (.foreignFrame (order 1)) base).out = some (order 1) := by decide +kernel

/-- R31, R166: ring loss in BRUSH. -/
theorem test_ringLossTimerExpiry :
    let t := after (.ringLossTimerExpiry []) (inState (.pasting .brush))
    (t.stand 2).state = .fault ∧ (t.stand 2).faultCode = some .pasteUnknown ∧
    (events t).map (·.1) = [.ringLost, .pasteUnknown, .lockReleased] := by decide +kernel

theorem test_resetAssert : (after (.cycleFrame (cycle 5001000) {}) (after .resetAssert base)).port = base.port := by
  decide +kernel

theorem test_resetRelease : after (.resetRelease 9) (inState .ready) = State.powerOn 9 := by decide +kernel

/-! ### Requests -/

/-- R171, R190: entries 5 and 6 of stand table 2. -/
theorem test_readTable :
    (after (.readTable (ask [1, 0x02050201] 4)) base).out.map (fun f => f.slots.drop 2) = some [0, 1, 1300, 1100] := by
  decide +kernel

theorem test_loadTablePart :
    let t := after (.loadTablePart (load 0 0 0 [3000])) base
    replyStatus 3 t = some 0 ∧ t.port.effectiveLead = 3000 := by decide +kernel

/-- R42, chapter 11: brush latency 45 in BRUSH is answered HELD. -/
theorem test_loadTableStand :
    let t := after (.loadTableStand (load 1 2 20 [45])) (inState (.pasting .brush))
    replyStatus 3 t = some 1 ∧ (t.stand 2).pendingLoad = some latencyLoad ∧ brushLatency (t.stand 2).table = 40 := by
  decide +kernel

/-- R140 step 3: path lengths that do not increase. -/
theorem test_loadTablePath :
    replyStatus 3 (after (.loadTablePath (load 2 2 1 [650000])) base) = some 4 ∧
    pathLength ((after (.loadTablePath (load 2 2 1 [640000])) base).path 2).table 0 = 640000 := by decide +kernel

/-- R152: a folder command field over the stand's command field. -/
theorem test_loadTableGroup :
    replyStatus 3 (after (.loadTableGroup (load 3 1 1 [45])) base) = some 5 ∧
    replyStatus 3 (after (.loadTableGroup (load 3 1 1 [46])) base) = some 0 := by decide +kernel

theorem test_loadTableGauge :
    replyStatus 3 (after (.loadTableGauge (load 4 0 2 [200])) measuring) = some 1 ∧
    measureTimeout ((after (.loadTableGauge (load 4 0 2 [200])) base).gauge 0).table = 200 := by decide +kernel

theorem test_enable :
    ((after (.enable (order 1)) (inState .offline)).stand 2).state = .parked ∧
    replyStatus 2 (after (.enable (order 1)) State.reset) = some 7 := by decide +kernel

theorem test_disable :
    let t := after (.disable (order 2)) (inState .accelerating)
    (t.stand 2).state = .offline ∧ (t.group 1).holder = .none ∧ (t.stand 2).rotation = .brake := by decide +kernel

theorem test_park : ((after (.park (order 3)) (inState .ready)).stand 2).state = .parked := by decide +kernel

theorem test_resume : ((after (.resume (order 4)) (inState .parked)).stand 2).state = .ready := by decide +kernel

theorem test_mount :
    ((after (.mount orderMount) (inState .running)).stand 2).newReel =
      some { ident := some [65, 66], caliper := 80, diameter := some ⟨12500, .manual⟩, mark := none, mountTime := 5000000 } := by
  decide +kernel

theorem test_unmount :
    let t := after (.unmount (order 6)) (inState .waiting)
    (t.stand 2).state = .running ∧ (t.stand 2).newReel = none ∧ (t.group 1).waiting[2] = false := by decide +kernel

theorem test_range :
    let t := after (.range (order 7)) (inState .ready)
    (t.stand 2).state = .ranging ∧ (t.gauge 0).queue = [2] ∧ (t.stand 2).newReel.map (·.diameter) = some none := by
  decide +kernel

theorem test_autoOn : ((after (.autoOn orderAutoOn) (inState .ready)).stand 2).auto = true := by decide +kernel

theorem test_autoOff : ((after (.autoOff (order 8)) (after (.autoOn orderAutoOn) (inState .ready))).stand 2).auto = false := by
  decide +kernel

theorem test_spliceNow :
    let t := after (.spliceNow (order 9)) (inState .ready)
    (t.stand 2).state = .waiting ∧ (t.stand 2).urgent = true ∧ (t.group 1).waiting[2] = true ∧
    replyStatus 2 (after (.spliceNow (order 9)) (hold { sample with webSpeed := 1499 } (inState .ready))) = some 6 := by
  decide +kernel

theorem test_abort :
    let t := after (.abort (order 10)) (inState (.pasting .advance))
    (t.stand 2).state = .ready ∧ (t.stand 2).arm = .retract ∧ events t = [(.lockReleased, some 2, some (.group 1), none)] := by
  decide +kernel

theorem test_clearFault :
    let t := after (.clearFault (order 11)) (inState .fault)
    (t.stand 2).state = .ready ∧ (t.stand 2).faultCode = none := by decide +kernel

theorem test_groupOrderHold : ((after (.groupOrderHold (ask [4, 0x101])) base).group 1).held = true := by decide +kernel

theorem test_groupOrderRelease :
    ((after (.groupOrderRelease (ask [4, 0x201])) (after (.groupOrderHold (ask [4, 0x101])) base)).group 1).held = false := by
  decide +kernel

/-- R190: state 8, phase 2; a new reel with diameter from the gauge and its mark; the expiring reel with its estimate. -/
theorem test_readStand :
    (after (.readStand (ask [5, 2] 18)) (inState (.pasting .brush))).out.map (fun f => f.slots.drop 2) =
      some [0, 0x28, 0x1d, 80, 12500, 812, 0, 0, 0, 0, 0x09, 80, 1734, 1292722, 12927, 0, 0, 0] := by decide +kernel

/-- R190: the holder is the entry of stand 2; one entry. -/
theorem test_readTracker :
    (after (.readTracker (ask [6, 1] 8)) (inState (.pasting .cut))).out.map (fun f => f.slots.drop 2) =
      some [0, 0x1022, 0x2002, 5143457, 1000014310, 0, 0, 0] := by decide +kernel

/-- R190: one record, SPEED_ABORT absent here: LOCK_RELEASED of stand 2 at group 1. -/
theorem test_takeEvents :
    let t := after (.takeEvents (ask [7, 8] 6)) (after (.abort (order 10)) (inState .accelerating))
    t.out.map (fun f => f.slots.drop 2) = some [0, 1, 0x00112115, 7, 5000000, 0] ∧ t.responder.events = [] := by decide +kernel

theorem test_clearAttention :
    let s := base.putFlags 2 ⟨true, true, false, false⟩
    (after (.clearAttention (ask [8, 0x100, 0])) s).flagsOf 2 = ⟨false, true, false, false⟩ := by decide +kernel

theorem test_restartPart :
    replyStatus 1 (after (.restartPart (ask [9])) (inState (.pasting .cut))) = some 3 ∧
    ((after (.restartPart (ask [9])) (inState .waiting)).stand 2).state = .offline := by decide +kernel

theorem test_unknownRequest :
    replyStatus 1 (after (.unknownRequest (ask [10])) base) = some 8 ∧
    replyStatus 2 (after (.unknownRequest (order 12)) base) = some 8 := by decide +kernel

/-! ### The rows within the work of a frame -/

/-- Row S6 of chapter 3: estimate 1733 and 12,893 ms, within the lead of 12,895 ms. -/
def triggering : State :=
  (hold { sample with revolutions := 7, latched := 33707 } (inState .ready)).onStand 2 fun st => { st with auto := true }

theorem test_automaticTrigger :
    let t := after (.automaticTrigger 2) (due (.sample 2) triggering)
    (t.stand 2).state = .waiting ∧ (t.stand 2).expiring.bind (·.estimate) = some ⟨1733, 1289318, .ms 12893⟩ := by
  decide +kernel

/-- Chapter 11, first sequence: n_ref 2559, the match deadline 17,000 ms after the grant. -/
theorem test_lockGrant :
    let t := after (.lockGrant 1) (due (.grant 1) (inState .waiting))
    (t.group 1).holder = .stand 2 ∧ (t.stand 2).rotationRef = 2559 ∧
    (t.stand 2).schedule.map (·.matchDeadline) = some 22000000 := by decide +kernel

/-- R101, R164: a grant due from the frame before is taken before SPLICE-NOW, so the stand waits for the next accepted frame. -/
theorem test_lockGrant_after_spliceNow :
    let t := after (.lockGrant 1) (after (.spliceNow (order 9)) (due (.grant 1) (inState .ready)))
    (t.stand 2).state = .waiting ∧ (t.group 1).holder = .none ∧ t.frame.due = [] := by decide +kernel

/-- An expiring reel of 1376, below the forced margin of 20 m. -/
def low : ExpiringReel := { old with estimate := some ⟨1376, 199663, .ms 1996⟩ }

theorem test_forcedStart :
    let t := after (.forcedStart 2) (due (.sample 2) ((inState .waiting).onStand 2 fun st => { st with expiring := some low }))
    (t.stand 2).state = .accelerating ∧ (t.stand 2).forced = true ∧ (t.group 1).holder = .none ∧
    (events t).map (·.1) = [.spliceForced] := by decide +kernel

/-- The stand before its last match and its second latch (chapter 4, 10,791 ms). -/
def learning : State :=
  (hold { sample with markCount := 42, markAngle := 812 } (inState .accelerating)).onStand 2 fun st =>
    { st with newReel := some { reel with mark := none } }

theorem test_pastingAdvanceEntry :
    let t := after (.pastingAdvanceEntry 2) (due (.sample 2) learning)
    (t.stand 2).state = .pasting .advance ∧ (t.stand 2).newReel.bind (·.mark) = some 812 ∧
    (t.stand 2).schedule.bind (·.advanceDeadline) = some 5500000 := by decide +kernel

/-- Chapter 4: brush Tp + 103,457 and confirm deadline Tp + 925,011. -/
theorem test_pasteInstant :
    let t := after (.pasteInstant 2) (due (.sample 2) (inState (.pasting .advance)))
    (t.stand 2).brushAt = some 5103457 ∧ (t.stand 2).schedule.bind (·.confirmDeadline) = some 5925011 := by decide +kernel

/-- The confirming sample of chapter 4, at Tp + 146,000. -/
def confirming : State :=
  (hold { sample with time := 5146000, length := 1000014564, confirmCount := 18 } (inState (.pasting .brush))).onPort fun p =>
    { p with last := some ⟨5146000, 8, 1000⟩ }

/-- Chapter 4: contact length 1,000,014,310 and knife Tp + 223,457; R69: the confirm reference moves to the sample's count. -/
theorem test_pasteConfirm :
    let t := after (.pasteConfirm 2) (due (.sample 2) confirming)
    (t.group 1).tracker = [entry] ∧ (t.group 1).holder = .entry 2 ∧ (t.stand 2).knifeAt = some 5223457 ∧
    (t.stand 2).schedule.bind (·.confirmReference) = some 18 := by decide +kernel

theorem test_spliceCompletion :
    let t := after (.spliceCompletion 2) (due (.sample 2) (hold { sample with knifeCount := 10 } (inState (.pasting .cut))))
    (t.stand 2).state = .running ∧ (t.stand 2).rotation = .hold ∧ (t.stand 2).expiring.map (·.origin) = some .spliced ∧
    (t.flagsOf 2).spliceDone = true := by decide +kernel

theorem test_matchDeadline :
    ((after (.matchDeadline 2) (due (.deadline 2) (inState .accelerating))).stand 2).faultCode = some .matchFail := by
  decide +kernel

theorem test_advanceDeadline :
    ((after (.advanceDeadline 2) (due (.deadline 2) (inState (.pasting .advance)))).stand 2).faultCode = some .setupFail := by
  decide +kernel

/-- The machine at another ring time. -/
def atTime (t : BitVec 32) (s : State) : State := s.onPort fun p => { p with last := some ⟨t, 8, 1000⟩ }

/-- Chapter 11, third sequence: PASTE_MISS, LOCK_RELEASED, TABLE_APPLIED in this order. -/
theorem test_confirmDeadline :
    let s := (inState (.pasting .brush)).onStand 2 fun st => { st with pendingLoad := some latencyLoad }
    let t := after (.confirmDeadline 2) (due (.deadline 2) (atTime 5926000 s))
    events t = [(.pasteMiss, some 2, none, some 6), (.lockReleased, some 2, some (.group 1), none),
      (.tableApplied, some 2, none, none)] ∧ brushLatency (t.stand 2).table = 45 := by decide +kernel

/-- Stand 2 in BRUSH past its confirm deadline, stand 3 waiting in its group, a group-table load pending and the grant due. -/
def releasing (grantFirst : List GroupNo) : State :=
  let s := (atTime 5926000 (inState (.pasting .brush))).onStand 3 fun _ => (inState .waiting).stand 2
  let s := s.onGroup 1 fun g => { g with waiting := g.waiting.set 3 true, pendingLoad := some ⟨5, [60]⟩ }
  { s with frame := { s.frame with grantFirst := grantFirst, due := [.deadline 2, .grant 1] } }

/-- R143: the application first, with the grant still to come; or the grant first, which keeps the load pending. -/
theorem test_confirmDeadline_release :
    let t := after (.confirmDeadline 2) (releasing [])
    let u := after (.confirmDeadline 2) (releasing [1])
    (t.group 1).holder = .none ∧ clearance (t.group 1).table = 600000 ∧ t.frame.due = [.grant 1] ∧
    (u.group 1).holder = .stand 3 ∧ clearance (u.group 1).table = 500000 ∧ (u.group 1).pendingLoad.isSome = true ∧
    u.frame.due = [] := by decide +kernel

/-- Chapter 11: the knife deadline is Tp + 523,457. -/
theorem test_knifeTimeout :
    ((after (.knifeTimeout 2) (due (.deadline 2) (atTime 5523457 (inState (.pasting .cut))))).stand 2).rotation = .hold ∧
    ((after (.knifeTimeout 2) (due (.deadline 2) (atTime 5523456 (inState (.pasting .cut))))).stand 2).state = .pasting .cut := by
  decide +kernel

theorem test_gaugeMeasureStart :
    ((after (.gaugeMeasureStart 0) (due (.start 0) (holdGauge { result with completed := 0 } (inState .ranging)))).gauge 0).state =
      .measuring 2 8000000 := by decide +kernel

/-- R118: D = 2 × 10000 − 2 × 3750 = 12500. -/
theorem test_gaugeResult :
    let t := after (.gaugeResult 0) (due (.result 0) (holdGauge result measuring))
    (t.stand 2).state = .ready ∧ (t.stand 2).newReel.bind (·.diameter) = some ⟨12500, .gauge⟩ ∧ (t.gauge 0).state = .idle := by
  decide +kernel

theorem test_gaugeMeasureTimeout :
    let t := after (.gaugeMeasureTimeout 0) (due (.timeout 0) (atTime 8000000 measuring))
    (t.stand 2).state = .loaded ∧ events t = [(.gaugeTimeout, some 2, some (.gauge 0), none)] := by decide +kernel

theorem test_gaugeCancelEnd :
    ((after (.gaugeCancelEnd 0) (due (.result 0) (holdGauge result cancelling))).gauge 0).state = .idle ∧
    ((after (.gaugeCancelEnd 0) (due (.result 0) (holdGauge { result with busy := true } cancelling))).gauge 0).state ≠ .idle := by
  decide +kernel

theorem test_gaugeCancelTimeout :
    events (after (.gaugeCancelTimeout 0) (due (.timeout 0) (atTime 8000000 cancelling))) =
      [(.gaugeTimeout, none, some (.gauge 0), none)] := by decide +kernel

/-- A stand field with a stale count, no sample of it accepted at this frame. -/
def repeating (k : Nat) : State :=
  let s := base.onStand 2 fun st => { st with monitor := { st.monitor with staleCount := k } }
  { s with frame := { s.frame with due := [.stale (.stand 2)] } }

/-- R162: above the stale limit of 3. -/
theorem test_samplesStale :
    ((after (.samplesStale (.stand 2)) (repeating 4)).flagsOf 2).stale = true ∧
    ((after (.samplesStale (.stand 2)) (repeating 3)).stand 2).monitor.stale = false := by decide +kernel

/-- R43: a limit of 1 applied at the frame's acceptance is the one that this frame's test uses, whatever the table holds since. -/
theorem test_samplesStale_limit :
    let s := base.onStand 2 fun st => { st with table := st.table.set 4 1 }
    (acceptFrame (cycle 5001000) s).frame.limits[2] = 1 ∧
    ((after (.samplesStale (.stand 2)) ((repeating 2).onFrame fun w => { w with limits := w.limits.set 2 1 })).stand 2).monitor.stale =
      true := by decide +kernel

/-- Chapter 11: the first HOLD checkpoint at C + 3,000 ms, 300,000 beyond the contact length. -/
theorem test_holdCheckpoint :
    let t := after (.holdCheckpoint 2) (due (.holds 2) (tracked entry 1000314310))
    t.windows = [(140, 20000)] ∧ (t.group 1).tracker.map (·.next) = [1] := by decide +kernel

/-- Chapter 11: reject point 1,001,211,310, copies 4. -/
theorem test_rejectPoint :
    let t := after (.rejectPoint 2) (due (.reject 2) (tracked { entry with next := 2 } 1001211310))
    events t = [(.rejectIssued, some 2, some (.group 1), some 4)] ∧ (t.group 1).orderNumber = 1 ∧ (t.group 1).copyCount = 4 := by
  decide +kernel

/-- The entry with its reject issued. -/
def issued : Entry := { entry with next := 2, rejectIssued := true, copies := some 4 }

/-- Chapter 11: clearance point 1,001,714,310. -/
theorem test_clearancePoint :
    let t := after (.clearancePoint 2) (due (.clear 2) (tracked issued 1001714310))
    (t.group 1).tracker = [] ∧ (t.group 1).holder = .none ∧ events t = [(.lockReleased, some 2, some (.group 1), none)] := by
  decide +kernel

theorem test_standTablePendingApply :
    let t := after (.standTablePendingApply 2) ((inState .ready).onStand 2 fun st => { st with pendingLoad := some latencyLoad })
    brushLatency (t.stand 2).table = 45 ∧ events t = [(.tableApplied, some 2, none, none)] := by decide +kernel

theorem test_gaugeTablePendingApply :
    let t := after (.gaugeTablePendingApply 0) (base.onGauge 0 fun u => { u with pendingLoad := some ⟨2, [200]⟩ })
    measureTimeout (t.gauge 0).table = 200 ∧ events t = [(.tableApplied, none, some (.gauge 0), none)] := by decide +kernel

theorem test_pathTablePendingApply :
    let t := after (.pathTablePendingApply 2) (base.onPath 2 fun p => { p with pendingLoad := some ⟨1, [640000]⟩ })
    pathLength (t.path 2).table 0 = 640000 ∧ events t = [(.tableApplied, some 2, none, none)] := by decide +kernel

theorem test_groupTablePendingApply :
    let t := after (.groupTablePendingApply 1) (base.onGroup 1 fun g => { g with pendingLoad := some ⟨5, [60]⟩ })
    clearance (t.group 1).table = 600000 ∧ events t = [(.tableApplied, none, some (.group 1), none)] := by decide +kernel

/-! ### Witnesses: for each obligation with hypotheses, states and operands that meet them -/

theorem witness_StepRunsFront :
    base.pending = [] ∧ ({ base with pending := [.resetAssert, .abort (order 10)] } : State).pending =
      .resetAssert :: [.abort (order 10)] := by decide +kernel

/-- The worked stand in each state is sound, so every statement about sound states speaks of it. -/
theorem witness_Sound : ∀ x ∈ states, (inState x).Sound := fun x h =>
  { stands := by revert x; decide +kernel
    locks := by revert x; decide +kernel
    trackers := by revert x; decide +kernel
    gauges := by revert x; decide +kernel
    tables := by revert x; decide +kernel
    pending := by revert x; decide +kernel
    loaded := by revert x; decide +kernel
    folders := by revert x; decide +kernel }

theorem witness_FramesPassUnchanged :
    let f := order 1
    ({ base with resetLow := true } : State).resetLow = true ∧ (Instr.enable f).serviceFrame = some f ∧
    ({ base with nodeAddress := 0 } : State).nodeAddress = 0 ∧ destination f ≠ ({ base with nodeAddress := 2 } : State).nodeAddress ∧
    replyLength { f with head1 := 0 } = 0 ∧ slotCount { f with slots := f.slots.take 2 } ≤ requestLength f := by decide +kernel

theorem witness_ReplyFollowsRequestArea : 1 + [(5 : Word)].length ≤ replyRoom (order 1) ∧ replyRoom (order 1) = 2 := by
  decide +kernel

theorem witness_RequestsRefused :
    (∀ c ∈ ([.enable (ask [3, 0x108]), .mount (ask [3, 0x508, 0, 0, 0, 0, 0, 0]), .groupOrderHold (ask [4, 0x104]),
        .readTracker (ask [6, 4]), .readStand (ask [5, 8]), .takeEvents (ask [7, 0]), .takeEvents (ask [7, 9]),
        .readTable (ask [1, 0x801]), .readTable (ask [1, 0x100]), .loadTablePart (load 0 1 0 [0]), .loadTableStand (load 1 8 0 [0]),
        .loadTablePath (load 2 8 0 [0]), .loadTableGroup (load 3 4 0 [0]), .loadTableGauge (load 4 4 0 [0])] : List Instr),
      (match c.serviceFrame with
        | some f => base.hears f && replyRoom f != 0 && areaLength c == some (requestLength f)
        | none => false) = true ∧ numbersFit c = false) ∧
    (let f := ask [3, 0x102, 0]
     (Instr.enable f).serviceFrame = some f ∧ base.hears f = true ∧ replyRoom f ≠ 0 ∧ base.frame.due = [] ∧ areaLength (.enable f) = some 2 ∧
       requestLength f ≠ 2) ∧
    base.asked (ask [5, 7] 17) 2 ∧ replyRoom (ask [5, 7] 17) < 18 ∧ bits (slotAt (ask [5, 7] 17).slots 1) 0 8 < 8 ∧
    (inState (.pasting .cut)).asked (ask [6, 1] 7) 2 ∧
    replyRoom (ask [6, 1] 7) < 2 + 6 * ((inState (.pasting .cut)).group 1).tracker.length ∧
    base.asked (ask [7, 8] 1) 2 ∧ replyRoom (ask [7, 8] 1) < 2 + 4 * min 8 base.responder.events.length ∧
    base.asked (ask [1, 0x00000201] 17) 2 ∧ replyRoom (ask [1, 0x00000201] 17) < 2 + runCount 0x00000201 := by decide +kernel

theorem witness_RequestsRefused_unknown :
    (∀ k ∈ ([0, 10, 255] : List Nat), base.asked (ask [BitVec.ofNat 32 k]) 1 ∧ (k = 0 ∨ 9 < k)) ∧
    base.asked (load 5 0 0 [0]) 3 ∧ 3 = 2 + runCount (slotAt (load 5 0 0 [0]).slots 1) ∧
    base.asked (order 0) 2 ∧ base.asked (order 12) 2 ∧ base.asked (ask [4, 0x3]) 2 ∧ base.asked (ask [4, 0x303]) 2 ∧
    base.asked (ask [1, 5]) 2 ∧ 4 < bits 5 0 8 := by decide +kernel

/-- Every stand order that R9's table refuses in some state is refused in a state of the worked stand. -/
theorem witness_StateRefusesOrders :
    (∀ x ∈ states, ∀ k ∈ List.range 12, (inState x).ordered (order k) 2 2 ∧ ((inState x).stand 2).state = x) ∧
    (inState .parked).ordered orderMount 8 2 ∧ (inState .parked).ordered orderAutoOn 2 2 ∧
    ∀ c ∈ ([.enable (order 1), .disable (order 2), .park (order 3), .resume (order 4), .mount orderMount, .unmount (order 6),
        .range (order 7), .autoOn orderAutoOn, .autoOff (order 8), .spliceNow (order 9), .abort (order 10), .clearFault (order 11)] : List Instr),
      states.any (fun x => !admits c x) = true := by decide +kernel

/-- ENABLE: every table loaded; one not loaded; with the gauge NONE; and the stand that it leaves in PARKED. -/
theorem witness_Enable :
    (inState .offline).ordered (order 1) 2 2 ∧ ((inState .offline).stand 2).loaded = true ∧ ((inState .offline).path 2).loaded = true ∧
    ((inState .offline).group (groupEntry ((inState .offline).stand 2).table)).loaded = true ∧
    gaugeEntry ((inState .offline).stand 2).table = some 0 ∧ ((inState .offline).gauge 0).loaded = true ∧
    State.reset.ordered (order 1) 2 2 ∧ (State.reset.stand 2).state = .offline ∧ (State.reset.stand 2).loaded = false := by
  decide +kernel

/-- DISABLE in every state; in RANGING queued, and measured. -/
theorem witness_Disable :
    (∀ x ∈ states, (inState x).ordered (order 2) 2 2) ∧ ((inState .ranging).gauge 0).queue = [2] ∧
    measuring.ordered (order 2) 2 2 ∧ (measuring.stand 2).state = .ranging ∧ (measuring.gauge 0).measures 2 = true ∧
    ((inState .accelerating).group ((inState .accelerating).groupOf 2)).holder = .stand 2 := by decide +kernel

theorem witness_ParkAndAuto :
    (∀ x ∈ states, (inState x).ordered (order 3) 2 2 ∧ (inState x).ordered orderAutoOn 2 2 ∧ (inState x).ordered (order 8) 2 2) ∧
    ((inState .parked).stand 2).state = .parked := by decide +kernel

theorem witness_Resume :
    (inState .parked).ordered (order 4) 2 2 ∧ ((inState .parked).stand 2).monitor.held = some sample ∧ sample.web = true ∧
    ((hold { sample with web := false } (inState .parked)).stand 2).monitor.held = some { sample with web := false } ∧
    (State.reset.stand 2).monitor.held = none := by decide +kernel

/-- A MOUNT for stand 2 with these presence bits and ident length, caliper and diameter. -/
def mountOf (w c d : Word) : Frame := ask [3, 0x502, w, c, d, 0x4241, 0, 0]

/-- MOUNT with its values at the ends of their ranges, past them, absent, and with an ident of length 0. -/
theorem witness_Mount :
    (∀ x ∈ states, (inState x).ordered orderMount 8 2 ∧ (inState x).ordered (mountOf 6 40 500) 8 2) ∧
    mountValues ((mountOf 6 40 500).slots.take 8) = ⟨none, some 40, some 500⟩ ∧
    mountValues ((mountOf 6 200 15000).slots.take 8) = ⟨none, some 200, some 15000⟩ ∧
    mountValues ((mountOf 6 39 15001).slots.take 8) = ⟨none, some 39, some 15001⟩ ∧
    mountValues ((mountOf 0 0 0).slots.take 8) = ⟨none, none, none⟩ ∧
    mountValues ((mountOf 1 0 0).slots.take 8) = ⟨some [], none, none⟩ ∧
    mountValues ((mountOf 0x205 0 12500).slots.take 8) = ⟨some [65, 66], none, some 12500⟩ := by decide +kernel

theorem witness_Unmount :
    (∀ x ∈ states, (inState x).ordered (order 6) 2 2) ∧ gaugeEntry ((inState .ranging).stand 2).table = some 0 := by decide +kernel

theorem witness_RangeOrder :
    (∀ x ∈ states, (inState x).ordered (order 7) 2 2) ∧ gaugeEntry ((inState .ready).stand 2).table = some 0 ∧
    (let s := (inState .ready).onStand 2 fun st => { st with table := st.table.set 1 4 }
     s.ordered (order 7) 2 2 ∧ (s.stand 2).state = .ready ∧ gaugeEntry (s.stand 2).table = none) := by decide +kernel

theorem witness_SpliceNow :
    (∀ x ∈ states, (inState x).ordered (order 9) 2 2) ∧ ((inState .ready).stand 2).monitor.held = some sample ∧
    minimumSpeed ((inState .ready).stand 2).table = 1500 ∧
    ((hold { sample with webSpeed := 1500 } (inState .ready)).stand 2).monitor.held = some { sample with webSpeed := 1500 } ∧
    ((hold { sample with webSpeed := 1499 } (inState .ready)).stand 2).monitor.held = some { sample with webSpeed := 1499 } := by
  decide +kernel

theorem witness_Abort : ∀ x ∈ states, (inState x).ordered (order 10) 2 2 ∧ ((inState x).stand 2).state = x := by decide +kernel

theorem witness_ClearFault :
    (∀ x ∈ states, (inState x).ordered (order 11) 2 2) ∧ ((inState .fault).stand 2).monitor.held = some sample ∧
    ((hold { sample with web := false } (inState .fault)).stand 2).state = .fault := by decide +kernel

theorem witness_GroupOrders :
    base.asked (ask [4, 0x103]) 2 ∧ bits (slotAt (ask [4, 0x103]).slots 1) 0 8 = (3 : GroupNo).val ∧
    ((base.onGroup 3 fun g => { g with held := true }).group 3).held = true := by decide +kernel

/-- A load held pending at a stand, a group and a gauge at once, the gauge measuring. -/
def loadsPending : State :=
  let s := measuring.onStand 2 fun st => { st with pendingLoad := some latencyLoad }
  let s := s.onGroup 1 fun g => { g with pendingLoad := some ⟨0, [132]⟩ }
  s.onGauge 0 fun u => { u with pendingLoad := some ⟨2, [200]⟩ }

/-- RESTART PART while a stand pastes; and with a stand accelerating, a gauge measuring and loads held pending. -/
theorem witness_RestartPart :
    (inState (.pasting .advance)).asked (ask [9]) 1 ∧ ((inState (.pasting .advance)).stand 2).state.isPasting = true ∧
    (∀ s ∈ [inState .accelerating, measuring, loadsPending],
      s.asked (ask [9]) 1 ∧ (∀ n, (s.stand n).state.isPasting = false) ∧ s.frame.handed = []) := by decide +kernel

/-- READ TABLE of the last two entries of each table kind, and a run one entry past the end. -/
theorem witness_ReadTable :
    (∀ a ∈ ([(0, 0, 2), (1, 7, 26), (2, 7, 15), (3, 3, 4), (4, 3, 1)] : List (Nat × Nat × Nat)),
      let f (first : Nat) := ask [1, BitVec.ofNat 32 (a.1 + a.2.1 * 256 + first * 65536 + 2 * 16777216)] 4
      base.asked (f a.2.2) 2 ∧ base.asked (f (a.2.2 + 1)) 2 ∧ bits (slotAt (f a.2.2).slots 1) 0 8 = a.1 ∧
      bits (slotAt (f a.2.2).slots 1) 8 4 = a.2.1 ∧ bits (slotAt (f a.2.2).slots 1) 16 8 = a.2.2 ∧
      bits (slotAt (f a.2.2).slots 1) 24 5 = 2 ∧ 2 + 2 ≤ replyRoom (f a.2.2)) ∧
    base.responder.table.toList.length = 4 := by decide +kernel

theorem witness_ReadStandAndTracker :
    (inState (.pasting .cut)).asked (ask [5, 2] 18) 2 ∧ 18 ≤ replyRoom (ask [5, 2] 18) ∧
    (inState (.pasting .cut)).asked (ask [6, 1] 8) 2 ∧ ((inState (.pasting .cut)).group 1).tracker.length = 1 ∧
    2 + 6 * 1 ≤ replyRoom (ask [6, 1] 8) ∧ ((inState (.pasting .cut)).group 1).tracker[0]? = some entry ∧
    (entry.ident.getD []).length ≤ 12 ∧ entry.next < 4 ∧ entry.copies.getD 0 < 256 := by decide +kernel

/-- The records of a stand: absent, with a reel of its own ident, without an estimate, and with an unbounded time. -/
theorem witness_ReadStandAndTracker_records :
    base.asked (ask [5, 2] 18) 2 ∧ (base.stand 2).newReel = none ∧ (base.stand 2).expiring = none ∧
    (let r : NewReel := { reel with ident := some [65, 66] }
     let o : ExpiringReel := { old with estimate := none }
     let s := (inState .ready).onStand 2 fun st => { st with newReel := some r, expiring := some o }
     s.asked (ask [5, 2] 18) 2 ∧ (s.stand 2).newReel = some r ∧ (r.ident.getD []).length < 16 ∧ (s.stand 2).expiring = some o) ∧
    (let o : ExpiringReel := { old with estimate := some ⟨1734, 1292722, .unbounded⟩ }
     let s := (inState .ready).onStand 2 fun st => { st with expiring := some o }
     s.asked (ask [5, 2] 18) 2 ∧ (s.stand 2).expiring = some o) ∧
    ((inState .ready).stand 2).expiring = some old ∧ old.estimate = some ⟨1734, 1292722, .ms 12927⟩ := by decide +kernel

/-- A queue with one event, from a lock given back. -/
def oneEvent : State := after (.abort (order 10)) (inState .accelerating)

theorem witness_TakeEvents :
    (∀ k ∈ ([0, 1, 8, 9] : List Nat), oneEvent.asked (ask [7, BitVec.ofNat 32 k] 6) 2) ∧ oneEvent.responder.events.length = 1 ∧
    2 + 4 * min 8 1 ≤ replyRoom (ask [7, 8] 6) := by decide +kernel

theorem witness_ClearAttention : base.asked (ask [8, 0xffffffff, 3]) 3 := by decide +kernel

/-- The run of a load as its obligation speaks of it. -/
abbrev carries (s : State) (f : Frame) (l : Load) (inst : Nat) : Prop :=
  s.asked f (2 + l.values.length) ∧ runCount (slotAt f.slots 1) = l.values.length ∧ bits (slotAt f.slots 1) 8 4 = inst ∧
  bits (slotAt f.slots 1) 16 8 = l.first ∧ (f.slots.drop 2).take l.values.length = l.values

/-- Each value of a load lies in its range. -/
abbrev fits (l : Load) (entries : Nat) (bounds : Nat → Bounds) : Prop :=
  l.values.length ≤ 16 ∧ l.first + l.values.length ≤ entries ∧
    ∀ i, i < l.values.length → withinBounds (bounds (l.first + i)) (slotAt l.values i) = true

/-- A table after a load, as the obligations say it. -/
abbrev laidOver {k : Nat} (l : Load) (old new : Vector Word k) : Prop :=
  ∀ i : Fin k, new[i.val] =
    if l.first ≤ i.val ∧ i.val < l.first + l.values.length then slotAt l.values (i.val - l.first) else old[i.val]

theorem witness_LoadTableStand :
    (∀ x ∈ states, carries (inState x) (load 1 2 20 [45]) latencyLoad 2 ∧
      laidOver latencyLoad ((inState x).stand 2).table (latencyLoad.over ((inState x).stand 2).table) ∧
      (inState x).placeable (.stand 2) [standField 2 (latencyLoad.over ((inState x).stand 2).table)] = true ∧
      (inState x).tablesOf (latencyLoad.over ((inState x).stand 2).table) = true ∧ (inState x).frame.handed = []) ∧
    fits latencyLoad 28 standBounds ∧ ¬fits ⟨20, [4]⟩ 28 standBounds ∧ ¬fits ⟨28, [5]⟩ 28 standBounds := by decide +kernel

theorem witness_LoadTableStand_refused :
    (let s := (inState .waiting).onStand 2 fun st => { st with pendingLoad := some latencyLoad }
     carries s (load 1 2 20 [45]) latencyLoad 2 ∧ (s.stand 2).pendingLoad.isSome = true) ∧
    (let t := (⟨5, [1100]⟩ : Load).over ((inState .ready).stand 2).table
     carries (inState .ready) (load 1 2 5 [1100]) ⟨5, [1100]⟩ 2 ∧ spliceDiameter t ≤ coreDiameter t) ∧
    (let t := (⟨3, [45]⟩ : Load).over ((inState .ready).stand 2).table
     carries (inState .ready) (load 1 2 3 [45]) ⟨3, [45]⟩ 2 ∧ (inState .ready).placeable (.stand 2) [standField 2 t] = false) ∧
    (let t := (⟨1, [1]⟩ : Load).over ((inState .ready).stand 2).table
     carries (inState .ready) (load 1 2 1 [1]) ⟨1, [1]⟩ 2 ∧ (inState .ready).tablesOf t = false) := by decide +kernel

theorem witness_LoadTablePath :
    (let l : Load := ⟨1, [640000]⟩
     ∀ x ∈ [StandState.ready, .pasting .cut], carries (inState x) (load 2 2 1 [640000]) l 2 ∧ fits l 17 pathBounds ∧
       laidOver l ((inState x).path 2).table (l.over ((inState x).path 2).table) ∧
       pathShape (l.over ((inState x).path 2).table) = true ∧
       (inState x).placeable (.path 2) (holdFields (l.over ((inState x).path 2).table)) = true) ∧
    ((inState (.pasting .cut)).group 1).tracker.any (·.stand == 2) = true ∧ ¬fits ⟨1, [0]⟩ 17 pathBounds ∧
    ¬fits ⟨17, [1]⟩ 17 pathBounds ∧ pathShape ((⟨1, [650000]⟩ : Load).over (base.path 2).table) = false ∧
    base.placeable (.path 2) (holdFields ((⟨3, [45]⟩ : Load).over (base.path 2).table)) = false ∧
    carries (base.onPath 2 fun p => { p with pendingLoad := some ⟨1, [640000]⟩ }) (load 2 2 1 [640000]) ⟨1, [640000]⟩ 2 := by
  decide +kernel

theorem witness_LoadTableGroupAndGauge :
    (let l : Load := ⟨2, [3000]⟩
     ∀ s ∈ [base, inState .accelerating, inState (.pasting .cut)], carries s (load 3 1 2 [3000]) l 1 ∧ fits l 6 groupBounds ∧
       laidOver l (s.group 1).table (l.over (s.group 1).table) ∧ s.frame.handed = [] ∧
       s.placeable (.group 1) [folderField 1 (l.over (s.group 1).table)] = true) ∧
    ((inState .accelerating).group 1).holder ≠ .none ∧ (base.group 1).holder = .none ∧ (base.group 1).tracker = [] ∧
    ¬fits ⟨2, [2999]⟩ 6 groupBounds ∧
    base.placeable (.group 1) [folderField 1 ((⟨1, [45]⟩ : Load).over (base.group 1).table)] = false := by decide +kernel

theorem witness_LoadTableGroupAndGauge_gauge :
    (let l : Load := ⟨2, [200]⟩
     ∀ s ∈ [base, measuring, cancelling], carries s (load 4 0 2 [200]) l 0 ∧ fits l 3 gaugeBounds ∧
       laidOver l (s.gauge 0).table (l.over (s.gauge 0).table) ∧ s.frame.handed = [] ∧
       s.placeable (.gauge 0) [gaugeField 0 (l.over (s.gauge 0).table)] = true) ∧
    (measuring.gauge 0).state ≠ .idle ∧ (base.gauge 0).state = .idle ∧ ¬fits ⟨2, [199]⟩ 3 gaugeBounds ∧
    base.placeable (.gauge 0) [gaugeField 0 ((⟨1, [45]⟩ : Load).over (base.gauge 0).table)] = false := by decide +kernel

theorem witness_LoadTablePart :
    (let l : Load := ⟨0, [500]⟩
     carries base (load 0 0 0 [500]) l 0 ∧ fits l 4 partBounds ∧ laidOver l base.responder.table (l.over base.responder.table) ∧
       base.placeable .part [statusField (l.over base.responder.table)] = true) ∧
    ¬fits ⟨0, [499]⟩ 4 partBounds ∧ ¬fits ⟨3, [64]⟩ 4 partBounds ∧
    base.placeable .part [statusField ((⟨2, [21]⟩ : Load).over base.responder.table)] = false := by decide +kernel

theorem witness_PendingLoads :
    (∀ x ∈ states, let s := (inState x).onStand 2 fun st => { st with pendingLoad := some latencyLoad }
      s.resetLow = false ∧ s.frame.handed = [] ∧ (s.stand 2).pendingLoad = some latencyLoad) ∧
    (let s := (inState .ready).onPath 2 fun p => { p with pendingLoad := some ⟨1, [640000]⟩ }
     (s.path 2).pendingLoad.isSome = true ∧ ∀ g, (s.group g).tracker = []) ∧
    (let s := base.onGroup 1 fun g => { g with pendingLoad := some ⟨2, [3000]⟩ }
     (s.group 1).pendingLoad.isSome = true ∧ (s.group 1).holder = .none ∧ (s.group 1).tracker = []) ∧
    (let s := base.onGauge 0 fun u => { u with pendingLoad := some ⟨2, [200]⟩ }
     (s.gauge 0).pendingLoad.isSome = true ∧ (s.gauge 0).state = .idle) := by decide +kernel

/-- After a release: the grant first and made, first and not made, not first, and a group that nothing settles. -/
theorem witness_PendingLoads_released :
    let s (grantFirst : List GroupNo) : State :=
      ((due (.grant 1) (inState .waiting)).onGroup 1 fun g => { g with pendingLoad := some ⟨5, [60]⟩ }).onFrame fun w =>
        { w with grantFirst := grantFirst }
    ((s [1]).group 1).pendingLoad = some ⟨5, [60]⟩ ∧ ((s [1]).group 1).holder = .none ∧ ((s [1]).group 1).tracker = [] ∧
    (1 : GroupNo) ∈ (s [1]).frame.grantFirst ∧ Work.grant 1 ∈ (s [1]).frame.due ∧ (s [1]).grantee 1 = some 2 ∧
    (leaveWaiting 2 (s [1])).grantee 1 = none ∧ (s []).resetLow = false ∧ (1 : GroupNo) ∉ (s []).frame.grantFirst ∧
    (base.group 1).pendingLoad = none ∧ ((inState .accelerating).group 1).holder ≠ .none := by decide +kernel

/-- Periods at both ends of their range, and the least later ring time; the first frame after reset. -/
theorem witness_CycleFrameAccepted :
    (250 : Word).toNat = 250 ∧ (4000 : Word).toNat = 4000 ∧ base.resetLow = false ∧
    State.reset.port.last = none ∧ base.port.last = some ⟨5000000, 7, 1000⟩ ∧
    0 < ((cycle 5000001).head1 - 5000000).toInt := by decide +kernel

theorem witness_FrameWorkTaken :
    base.resetLow = false ∧ base.frame.due = [] ∧ base.accepts (cycle 5001000) = true ∧ base.frame.handed = [] ∧
    InputField.stand 2 ∈ (after (.cycleFrame (cycle 5001000) {}) base).frame.fresh := by decide +kernel

/-- A frame that reaches stand 2's sample field and not gauge 0's; pieces without an accepted sample, and stands that do nothing. -/
theorem witness_FrameWorkTaken_due :
    (base.stand 2).loaded = true ∧ (base.gauge 0).loaded = true ∧ (base.group 1).loaded = true ∧ (base.stand 3).loaded = false ∧
    sampleBase (base.stand 2).table + 8 ≤ (List.replicate 110 (0 : Word)).length ∧
    (List.replicate 110 (0 : Word)).length < gaugeSampleBase (base.gauge 0).table + 3 ∧
    ((inState (.pasting .cut)).group 1).tracker = [entry] ∧ State.reset.port.ring = .lost ∧ base.port.ring = .up ∧
    InputField.stand 2 ∉ base.frame.fresh ∧ InputField.gauge 0 ∉ base.frame.fresh ∧ base.frame.recovery = false ∧
    ∀ x ∈ [StandState.offline, .parked, .fault], ((inState x).stand 2).state = x := by decide +kernel

/-- Work left due by a plan, with each kind of command that takes it first. -/
theorem witness_FrameWorkTaken_finish :
    let s := after (.cycleFrame (cycle 5001000) { later := [.grant 1] }) base
    s.resetLow = false ∧ s.frame.due = [.grant 1] ∧ (Instr.autoOn orderAutoOn).serviceFrame = some orderAutoOn ∧
    s.hears orderAutoOn = true ∧ replyRoom orderAutoOn ≠ 0 ∧ s.port.timer.isSome = true := by decide +kernel

theorem witness_CycleFrameRefused :
    base.resetLow = false ∧ base.frame.due = [] ∧ base.port.last = some ⟨5000000, 7, 1000⟩ ∧
    ((cycle 5000000).head1 - 5000000).toInt ≤ 0 ∧ base.port.timeBack = false ∧ (249 : Word).toNat < 250 ∧
    4000 < (4001 : Word).toNat ∧ (base.onPort fun p => { p with timeBack := true }).port.timeBack = true ∧
    base.port.statusBase + 20 ≤ (cycle 5000000).slots.length ∧ base.eventsSound ∧
    (⟨0, 0, 0, List.replicate 19 0⟩ : Frame).slots.length < base.port.statusBase + 20 := by decide +kernel

theorem witness_AcceptanceEvents :
    State.reset.responder.events.length ≤ 30 ∧ State.reset.port.ring = .lost ∧ base.port.ring = .up ∧
    base.allWithin 142 = true ∧ base.allWithin 141 = false ∧ base.port.shortFrame = false := by decide +kernel

/-- The ends of the fields of the map: the status field, stand 2, gauge 0, group 1 and the last hold slot. -/
theorem witness_AcceptanceEvents_fields :
    statusBaseEntry base.responder.table + 20 = 20 ∧ (base.stand 2).loaded = true ∧ sampleBase (base.stand 2).table + 8 = 108 ∧
    commandBase (base.stand 2).table + 6 = 46 ∧ (base.gauge 0).loaded = true ∧ gaugeSampleBase (base.gauge 0).table + 3 = 123 ∧
    gaugeCommandBase (base.gauge 0).table + 2 = 52 ∧ (base.group 1).loaded = true ∧ folderSampleBase (base.group 1).table + 2 = 132 ∧
    folderCommandBase (base.group 1).table + 2 = 62 ∧ 1 < checkpointCount (base.path 2).table ∧
    isHold (base.path 2).table 1 = true ∧ holdSlot (base.path 2).table 1 + 1 = 142 := by decide +kernel

theorem witness_StatusRecord :
    base.resetLow = false ∧ base.frame.due = [] ∧ base.accepts (cycle 5001000) = true ∧ base.placementSound ∧ base.eventsSound ∧
    statusBaseEntry base.responder.table + 20 ≤ (cycle 5001000).slots.length := by decide +kernel

/-- The worked stand with its brush time in force, a gauge measuring, and two windows prepared for one hold slot. -/
theorem witness_CommandFields :
    (∀ s ∈ [inState (.pasting .brush), measuring, { inState (.pasting .cut) with windows := [(140, 20000), (140, 5)] }],
      s.placementSound ∧ (s.stand 2).loaded = true ∧ (s.gauge 0).loaded = true ∧ (s.group 1).loaded = true) ∧
    commandBase (base.stand 2).table + 6 ≤ (cycle 5001000).slots.length ∧
    gaugeCommandBase (base.gauge 0).table + 2 ≤ (cycle 5001000).slots.length ∧
    folderCommandBase (base.group 1).table + 2 ≤ (cycle 5001000).slots.length ∧ 0 < checkpointCount (base.path 2).table ∧
    isHold (base.path 2).table 0 = true ∧ holdSlot (base.path 2).table 0 + 1 ≤ (cycle 5001000).slots.length := by decide +kernel

/-- Slot 39 of the worked frame, just below the stand's command field at 40, and slot 20, just above the status field. -/
theorem witness_UnwrittenSlotsStay :
    ∀ i ∈ [20, 39], i < (cycle 5001000).slots.length ∧ statusBaseEntry base.responder.table + 20 ≤ i ∧
      ∀ p ∈ base.commandFields, i < p.base ∨ p.base + p.len ≤ i := by decide +kernel

/-- A stand field handed to its judgement: brought, and beyond the frame. -/
def judging (brought : Option (List Word)) : State :=
  { inState .ready with
    frame := { FrameWork.powerOn with handed := [(.stand 2, brought)], due := [.judge (.stand 2)] } }

/-- A new counter (4 after 3), a counter that repeats, and a field beyond the frame. -/
theorem witness_FieldsJudged :
    (∀ b ∈ [some [0x00002304, 10000, 0, 0, 0, 0, 0, 0], some [(0x00002303 : Word), 10000, 0, 0, 0, 0, 0, 0], none],
      (judging b).frame.moved = [] ∧ (judging b).frame.due.contains (.judge (.stand 2)) = true ∧
      ((judging b).frame.handed.find? (·.1 == .stand 2)) = some (.stand 2, b)) ∧
    ((judging none).stand 2).monitor.history = some 3 := by decide +kernel

/-- A gauge field and a folder field, each STALE with the history 3, with a new counter and with a repeat. -/
theorem witness_FieldsJudged_more :
    let s (f : InputField) (b : Option (List Word)) : State :=
      let t := base.onGauge 0 fun u => { u with monitor := { u.monitor with history := some 3, stale := true } }
      let t := t.onGroup 1 fun g => { g with monitor := { g.monitor with history := some 3, stale := true } }
      { t with frame := { FrameWork.powerOn with handed := [(f, b)], due := [.judge f] } }
    (∀ f ∈ [InputField.gauge 0, .folder 1], ∀ b ∈ [some [4, 0, 0], some [(3 : Word), 0, 0], none],
      (s f b).frame.moved = [] ∧ (s f b).frame.due.contains (.judge f) = true ∧
      ((s f b).frame.handed.find? (·.1 == f)) = some (f, b)) ∧
    ((s (.gauge 0) none).gauge 0).monitor.history = some 3 ∧ ((s (.folder 1) none).group 1).monitor.history = some 3 := by
  decide +kernel

/-- A field that a load has moved before its judgement: a sample brought, and none. -/
theorem witness_FieldsJudged_moved :
    ∀ b ∈ [some [(0x00002304 : Word), 10000, 0, 0, 0, 0, 0, 0], none],
      let s := (judging b).onFrame fun w => { w with moved := [.stand 2] }
      InputField.stand 2 ∈ s.frame.moved ∧ s.frame.due.contains (.judge (.stand 2)) = true ∧
        (s.frame.handed.find? (·.1 == .stand 2)) = some (.stand 2, b) := by decide +kernel

theorem witness_SamplesStale :
    (repeating 4).nextIs (.stale (.stand 2)) ∧ InputField.stand 2 ∉ (repeating 4).frame.fresh ∧
    ((repeating 4).stand 2).monitor.stale = false ∧ (repeating 4).frame.limits[2] < ((repeating 4).stand 2).monitor.staleCount ∧
    (let s := (base.onGauge 0 fun u => { u with monitor := { u.monitor with staleCount := 4 } }).onGroup 1 fun g =>
       { g with monitor := { g.monitor with staleCount := 4 } }
     let s : State := { s with frame := { s.frame with due := [.stale (.gauge 0), .stale (.folder 1)] } }
     s.nextIs (.stale (.gauge 0)) ∧ s.nextIs (.stale (.folder 1)) ∧ InputField.gauge 0 ∉ s.frame.fresh ∧
       InputField.folder 1 ∉ s.frame.fresh ∧ 3 < (s.gauge 0).monitor.staleCount ∧ 3 < (s.group 1).monitor.staleCount) := by
  decide +kernel

/-- Ring loss from a sound state in each state of the worked stand, and with the stand measured. -/
theorem witness_RingLoss :
    (∀ x ∈ states, (inState x).resetLow = false ∧ (inState x).frame.due = [] ∧ (inState x).port.timer.isSome = true ∧
      (inState x).port.ring = .up) ∧
    State.reset.port.timer = none ∧ (measuring.gauge 0).measures 2 = true ∧ measuring.gaugesSound ∧
    (base.onPort fun p => { p with ring := .lost }).port.timer.isSome = true := by decide +kernel

/-- The first revolution seen, a further one, and none (chapter 3, rows S5 and S6). -/
theorem witness_DiameterTracking :
    (∀ e, ({ old with estimate := none } : ExpiringReel).estimate ≠ some e) ∧ (sample.revolutions - old.lastRevolution).toNat = 0 ∧
    (({ sample with revolutions := 7 } : StandSample).revolutions - old.lastRevolution).toNat = 1 ∧
    old.estimate.map (·.diameter) = some 1734 := ⟨by simp, by decide +kernel⟩

theorem witness_PasteInstantPlacement :
    1000 ≤ sample.rate ∧ sample.rate ≤ 65535 ∧ 1000 ≤ ({ sample with rate := 1000 } : StandSample).rate ∧
    ({ sample with rate := 65535 } : StandSample).rate ≤ 65535 := by decide +kernel

/-- A piece of the frame's work next, with the sample of stand 2 accepted at this frame. -/
abbrev sampling (s : State) (x : StandState) (v : StandSample) : Prop :=
  s.nextIs (.sample 2) ∧ InputField.stand 2 ∈ s.frame.fresh ∧ (s.stand 2).monitor.held = some v ∧ (s.stand 2).state = x

theorem witness_AutomaticTrigger :
    let v := { sample with revolutions := 7, latched := 33707 }
    let s := due (.sample 2) triggering
    sampling s .ready v ∧ (s.stand 2).newReel = some reel ∧ reel.diameter = some ⟨12500, .gauge⟩ ∧ (s.stand 2).auto = true ∧
    v.web = true ∧ minimumSpeed (s.stand 2).table ≤ v.webSpeed ∧ (∀ g, (s.group g).tracker = []) ∧ (s.stand 2).expiring = some old ∧
    (trackReel old 1100 1300 v).estimate = some ⟨1733, 1289318, .ms 12893⟩ ∧
    12893 ≤ (10000 * 1000 + 1000 - 1) / 1000 + 2000 + 500 + (35500 * 12500 + 113 * 10000 - 1) / (113 * 10000)
      + (s.port.effectiveLead + 999) / 1000 := by decide +kernel

/-- A READY stand at a sample, with its auto flag and its expiring reel. -/
def tried (auto : Bool) (v : StandSample) (r : ExpiringReel) : State :=
  due (.sample 2) ((hold v (inState .ready)).onStand 2 fun st => { st with auto := auto, expiring := some r })

/-- A reel without an estimate. -/
def unmeasured : ExpiringReel := { old with estimate := none }

/-- A reel with paper for ten minutes. -/
def large : ExpiringReel := { old with estimate := some ⟨8000, 0, .ms 0⟩ }

/-- Each cause that holds the trigger: the auto flag off, the speed one below the minimum, no estimate, a web that stands still, a
remaining time above the lead of the worked case, and a tracker entry. -/
theorem witness_AutomaticTrigger_held :
    (∀ a ∈ [(false, sample, old), (true, { sample with webSpeed := 1499 }, old), (true, sample, unmeasured),
        (true, { sample with webSpeed := 0 }, old), (true, sample, large)],
      sampling (tried a.1 a.2.1 a.2.2) .ready a.2.1 ∧ a.2.1.web = true) ∧
    minimumSpeed (base.stand 2).table = 1500 ∧ (trackReel unmeasured 1100 1300 sample).estimate = none ∧
    (trackReel old 1100 1300 { sample with webSpeed := 0 }).estimate.map (·.time) = some .unbounded ∧
    (trackReel large 1100 1300 sample).estimate.map (·.time) = some (.ms 611727) ∧
    (((tried true sample old).onGroup 1 fun g => { g with tracker := [entry] }).group 1).tracker = [entry] := by
  decide +kernel

/-- A grant with one eligible stand; and with the group held, with a holder, with no stand waiting. -/
theorem witness_LockGrant :
    (∀ s ∈ [due (.grant 1) (inState .waiting), due (.grant 1) ((inState .waiting).onGroup 1 fun g => { g with held := true }),
        due (.grant 1) (inState .accelerating), due (.grant 1) base], s.nextIs (.grant 1)) ∧
    (let s := inState .waiting
     (s.group 1).held = false ∧ (s.group 1).holder = .none ∧ (s.stand 2).monitor.held = some sample ∧ (s.stand 2).newReel = some reel ∧
       (s.group 1).waiting[2] = true ∧ minimumSpeed (s.stand 2).table ≤ sample.webSpeed ∧ (∀ g, (s.group g).tracker = []) ∧
       ∀ m : StandNo, m ≠ 2 → (s.group 1).waiting[m.val] = false) := by decide +kernel

/-- Two eligible stands, 2 and 3, with equal keys: the lower number goes first. -/
theorem witness_LockGrant_two :
    let s := (inState .waiting).onStand 3 fun _ => (inState .waiting).stand 2
    let s := s.onGroup 1 fun g => { g with waiting := g.waiting.set 3 true }
    (due (.grant 1) s).nextIs (.grant 1) ∧ s.eligible 1 2 = true ∧ s.eligible 1 3 = true ∧
    (s.stand 2).key = some 12927 ∧ (s.stand 3).key = some 12927 ∧ s.grantee 1 = some 2 := by decide +kernel

/-- The tie of log entry 20: stand 2 unmarked with 0 ms remaining, stand 3 urgent: equal keys, so the lower number goes first. -/
theorem witness_LockGrant_urgent :
    let s := (inState .waiting).onStand 3 fun _ => { (inState .waiting).stand 2 with urgent := true }
    let s := s.onStand 2 fun st => { st with expiring := some { low with estimate := some ⟨1300, 0, .ms 0⟩ } }
    let s := s.onGroup 1 fun g => { g with waiting := g.waiting.set 3 true }
    (due (.grant 1) s).nextIs (.grant 1) ∧ (s.group 1).held = false ∧ (s.group 1).holder = .none ∧ (s.stand 2).urgent = false ∧
    (s.stand 3).urgent = true ∧ s.eligible 1 2 = true ∧ s.eligible 1 3 = true ∧ (s.stand 2).newReel = some reel ∧
    (s.stand 2).key = some 0 ∧ (s.stand 3).key = some 0 ∧ s.grantee 1 = some 2 := by decide +kernel

theorem witness_ForcedStart :
    let s := due (.sample 2) ((inState .waiting).onStand 2 fun st => { st with expiring := some low })
    let marked := s.onStand 2 fun st => { st with forced := true }
    sampling s .waiting sample ∧ sampling marked .waiting sample ∧ (s.stand 2).newReel = some reel ∧ (s.stand 2).expiring = some low ∧
    (marked.stand 2).forced = true ∧ (s.stand 2).forced = false ∧ (∀ g, (s.group g).tracker = []) ∧
    (trackReel low 1100 1300 sample).estimate.map (·.length) = some 199663 ∧ 199663 ≤ (s.stand 2).table[8].toNat * 10000 ∧
    (s.group (s.groupOf 2)).holder ≠ .stand 2 := by decide +kernel

/-- A waiting stand at its forced margin with the held speed below its minimum. -/
theorem witness_ForcedStart_slow :
    let v := { sample with webSpeed := 1499 }
    let s := due (.sample 2) ((hold v (inState .waiting)).onStand 2 fun st => { st with expiring := some low })
    sampling s .waiting v ∧ v.web = true ∧ minimumSpeed (s.stand 2).table = 1500 ∧ (∀ g, (s.group g).tracker = []) ∧
    (s.stand 2).expiring = some low ∧ (s.stand 2).forced = false ∧ (s.group (s.groupOf 2)).holder ≠ .stand 2 ∧
    (trackReel low 1100 1300 v).estimate.map (·.length) = some 199663 ∧ (s.stand 2).table[8].toNat * 10000 = 200000 := by
  decide +kernel

/-- What holds a waiting stand unmarked: no estimate, a length above the margin, the lock, an entry; and a marked one that is slow. -/
theorem witness_ForcedStart_held :
    (∀ e ∈ [unmeasured, old],
      let s := due (.sample 2) ((hold sample (inState .waiting)).onStand 2 fun st => { st with expiring := some e })
      sampling s .waiting sample ∧ (s.stand 2).forced = false) ∧
    (trackReel unmeasured 1100 1300 sample).estimate = none ∧
    (trackReel old 1100 1300 sample).estimate.map (·.length) = some 1292722 ∧ (base.stand 2).table[8].toNat * 10000 = 200000 ∧
    (((inState .waiting).onGroup 1 fun g => { g with holder := .stand 2 }).group 1).holder = .stand 2 ∧
    (((inState .waiting).onGroup 1 fun g => { g with tracker := [entry] }).group 1).tracker.any (·.stand == 2) = true ∧
    (let v := { sample with webSpeed := 1499 }
     let s := due (.sample 2) ((hold v (inState .waiting)).onStand 2 fun st => { st with forced := true })
     sampling s .waiting v ∧ (s.stand 2).forced = true ∧ minimumSpeed (s.stand 2).table = 1500) := by decide +kernel

/-- The match count that this sample brings to 16; the mark learned at this sample at distance 7, and before it. -/
theorem witness_PastingAdvanceEntry :
    let v := { sample with markCount := 42, markAngle := 812 }
    let s := due (.sample 2) learning
    sampling s .accelerating v ∧ (s.stand 2).schedule = some schedule ∧ (s.stand 2).table[14].toNat ≤ 16 ∧
    ((v.rate : Int) - 2559).natAbs ≤ 2559 * 30 / 10000 ∧ schedule.lastMark = some 805 ∧ v.markCount ≠ schedule.markReference ∧
    min (v.markAngle - 805).toNat (4096 - (v.markAngle - 805).toNat) = 7 ∧ (s.stand 2).table[15].toNat = 8 ∧
    sampling (due (.sample 2) (inState .accelerating)) .accelerating sample ∧
    ((inState .accelerating).stand 2).newReel.bind (·.mark) = some 812 := by decide +kernel

/-- A stand that stays in ACCELERATING: an unmatched sample (rate 2567, past 2559 + 7), no latch, a first latch, and a latch at distance
9 below the mark limit. -/
theorem witness_PastingAdvanceEntry_stays :
    (∀ v ∈ [{ sample with rate := 2567 }, { sample with markCount := 41 }, { sample with markCount := 42, markAngle := 814 }],
      sampling (due (.sample 2) (hold v (inState .accelerating))) .accelerating v ∧ v.web = true ∧ v.ready = true ∧
        minimumSpeed (base.stand 2).table ≤ v.webSpeed) ∧
    2559 * 30 / 10000 < ((2567 : Int) - 2559).natAbs ∧ schedule.markReference = 41 ∧ schedule.lastMark = some 805 ∧
    min ((814 : BitVec 12) - 805).toNat (4096 - ((814 : BitVec 12) - 805).toNat) = 9 ∧ (base.stand 2).table[15].toNat = 8 ∧
    (learning.stand 2).newReel = some { reel with mark := none } ∧ schedule.markCount + 1 < markLimit (base.stand 2).table ∧
    0 < (base.stand 2).table[14].toNat ∧ ({ schedule with lastMark := none } : PasteSchedule).lastMark = none := by decide +kernel

theorem witness_PasteInstant :
    let s := due (.sample 2) (inState (.pasting .advance))
    sampling s (.pasting .advance) sample ∧ (s.stand 2).newReel = some reel ∧ reel.mark = some 812 ∧
    (s.stand 2).schedule = some schedule ∧ sample.arm = .pastePosition ∧ 1000 ≤ sample.rate := by decide +kernel

/-- A stand that stays in ADVANCE: the arm moving, and a rate of 999. -/
theorem witness_PasteInstant_stays :
    ∀ v ∈ [{ sample with arm := .moving }, { sample with rate := 999 }],
      let s := due (.sample 2) (hold v (inState (.pasting .advance)))
      sampling s (.pasting .advance) v ∧ (s.stand 2).newReel = some reel ∧ v.web = true ∧
        (v.arm ≠ .pastePosition ∨ v.rate < 1000) := by decide +kernel

theorem witness_PasteConfirm :
    let v := { sample with time := 5146000, length := 1000014564, confirmCount := 18 }
    let s := due (.sample 2) confirming
    sampling s (.pasting .brush) v ∧ (s.stand 2).schedule = some schedule ∧ schedule.contactTime = some 5143457 ∧
    schedule.confirmReference = some 17 ∧ v.web = true ∧ v.confirmCount ≠ 17 := by decide +kernel

theorem witness_SpliceCompletion :
    let v := { sample with knifeCount := 10 }
    let s := due (.sample 2) (hold v (inState (.pasting .cut)))
    sampling s (.pasting .cut) v ∧ (s.stand 2).newReel = some reel ∧ (s.stand 2).schedule = some schedule ∧
    schedule.knifeReference = some 9 ∧ v.knifeCount ≠ 9 := by decide +kernel

/-- A stand that stays in BRUSH, and one that stays in CUT: the counts as they were. -/
theorem witness_PasteConfirm_stays :
    ∀ x ∈ [Phase.brush, .cut],
      let s := due (.sample 2) (hold sample (inState (.pasting x)))
      sampling s (.pasting x) sample ∧ (s.stand 2).newReel = some reel ∧ (s.stand 2).schedule = some schedule ∧
        schedule.confirmReference = some 17 ∧ sample.confirmCount = 17 ∧ schedule.knifeReference = some 9 ∧
        sample.knifeCount = 9 ∧ sample.web = true := by decide +kernel

/-- Each deadline at the moment it is reached, and one microsecond before it. -/
theorem witness_DeadlinesFault :
    (∀ a ∈ ([(.accelerating, 5000000), (.pasting .advance, 5000000), (.pasting .brush, 5925011), (.pasting .cut, 5523457)] :
        List (StandState × BitVec 32)),
      let s := due (.deadline 2) (atTime a.2 (inState a.1))
      s.nextIs (.deadline 2) ∧ (s.group (s.groupOf 2)).waiting[2] = false ∧ (s.stand 2).state = a.1 ∧ (s.stand 2).schedule = some schedule ∧ 0 ≤ (s.now - a.2).toInt ∧
      ((due (.deadline 2) (atTime (a.2 - 1) (inState a.1))).now - a.2).toInt < 0) ∧
    schedule.matchDeadline = 5000000 ∧ schedule.advanceDeadline = some 5000000 ∧ schedule.confirmDeadline = some 5925011 ∧
    schedule.knifeTime = some 5223457 ∧ (5523457 : BitVec 32) = 5223457 + BitVec.ofNat 32 (1000 * 300) ∧
    (∀ s ∈ [inState (.pasting .brush)], s.responder.events.length ≤ 30 ∧ (s.group (s.groupOf 2)).holder = .stand 2) := by
  decide +kernel

/-- Stand 2 in BRUSH past its confirm deadline with a load pending that moves its sample field: the values written, the instance
loaded, the history forgotten, TABLE_APPLIED last; and without a load the table stands. -/
theorem witness_DeadlinesFault_load :
    let plain := due (.deadline 2) (atTime 5926000 (inState (.pasting .brush)))
    let s := plain.onStand 2 fun st => { st with pendingLoad := some ⟨2, [200]⟩ }
    let t := s.faulted 2 .pasteMiss
    s.nextIs (.deadline 2) ∧ (s.stand 2).schedule = some schedule ∧ (s.group (s.groupOf 2)).waiting[2] = false ∧
    0 ≤ (s.now - 5925011).toInt ∧ sampleBase (s.stand 2).table ≠ 200 ∧ sampleBase (t.stand 2).table = 200 ∧
    (t.stand 2).loaded = true ∧ (t.stand 2).pendingLoad = none ∧ (t.stand 2).monitor.history = none ∧
    (t.stand 2).monitor.held = (s.stand 2).monitor.held ∧
    events t = events s ++ [(.pasteMiss, some 2, none, some 6), (.lockReleased, some 2, some (.group 1), none),
      (.tableApplied, some 2, none, none)] ∧
    ((plain.faulted 2 .pasteMiss).stand 2).table = (plain.stand 2).table := by decide +kernel

/-- The web lost in each state that splices, the drive not ready, and a latch at distance 9 that is the second of two. -/
theorem witness_SampleFaults :
    (∀ x ∈ [StandState.accelerating, .pasting .advance, .pasting .brush, .pasting .cut],
      sampling (due (.sample 2) (hold { sample with web := false } (inState x))) x { sample with web := false }) ∧
    sampling (due (.sample 2) (hold { sample with ready := false } (inState .accelerating))) .accelerating
      { sample with ready := false } ∧
    (let v := { sample with markCount := 42, markAngle := 814 }
     let s := (hold v learning).onStand 2 fun st => { st with table := st.table.set 16 2 }
     sampling (due (.sample 2) s) .accelerating v ∧ minimumSpeed (s.stand 2).table ≤ v.webSpeed ∧
       (s.stand 2).schedule = some schedule ∧ (s.stand 2).newReel = some { reel with mark := none } ∧
       v.markCount ≠ schedule.markReference ∧ schedule.lastMark = some 805 ∧ (s.stand 2).table[15].toNat = 8 ∧
       min (v.markAngle - 805).toNat (4096 - (v.markAngle - 805).toNat) = 9 ∧
       markLimit (s.stand 2).table ≤ schedule.markCount + 1) := by decide +kernel

theorem witness_SampleExits :
    (∀ x ∈ [StandState.running, .loaded, .ranging, .ready, .waiting],
      sampling (due (.sample 2) (hold { sample with web := false } (inState x))) x { sample with web := false }) ∧
    sampling (due (.sample 2) (hold { sample with webSpeed := 1499 } (inState .accelerating))) .accelerating { sample with webSpeed := 1499 } ∧
    minimumSpeed ((inState .accelerating).stand 2).table = 1500 ∧
    (∀ x ∈ [StandState.running, .loaded, .ranging], sampling (due (.sample 2) (inState x)) x sample ∧
      ((inState x).stand 2).expiring = some old) ∧
    (trackReel low 1100 1300 sample).estimate.map (·.length) = some 199663 ∧
    (trackReel old 1100 1300 sample).estimate.map (·.length) = some 1292722 ∧ low.lowReported = false := by decide +kernel

/-- The low reel in each state that reports it, with the web and without. -/
theorem witness_SampleExits_low :
    ∀ x ∈ [StandState.running, .loaded, .ranging], ∀ v ∈ [sample, { sample with web := false }],
      sampling (due (.sample 2) ((hold v (inState x)).onStand 2 fun st => { st with expiring := some low })) x v ∧
      gaugeEntry ((inState x).stand 2).table = some 0 ∧ (trackReel low 1100 1300 v).estimate.map (·.length) = some 199663 := by
  decide +kernel

theorem witness_GaugeRows :
    (let s := due (.start 0) (holdGauge result (inState .ranging))
     InputField.gauge 0 ∈ s.frame.fresh ∧ (s.gauge 0).monitor.held = some result ∧ (s.gauge 0).queue = [2] ∧ s.nextIs (.start 0) ∧
       (s.gauge 0).state = .idle ∧ result.busy = false) ∧
    (let s := due (.start 0) (holdGauge result base)
     s.nextIs (.start 0) ∧ (s.gauge 0).state = .idle ∧ (s.gauge 0).queue = []) ∧
    (let s := due (.result 0) (holdGauge result measuring)
     s.nextIs (.result 0) ∧ (s.gauge 0).state = .measuring 2 8000000 ∧ result.completed = (s.gauge 0).sequence ∧
       (s.stand 2).table[26].toNat = 10000 ∧ result.valid = true) ∧
    result.valid = true := by decide +kernel

theorem witness_GaugeRows_more :
    (let s := due (.result 0) (holdGauge { result with completed := 0 } measuring)
     s.nextIs (.result 0) ∧ (s.gauge 0).monitor.held = some { result with completed := 0 } ∧ (s.gauge 0).sequence = 1) ∧
    (let s := due (.result 0) (holdGauge { result with valid := false } measuring)
     s.nextIs (.result 0) ∧ (s.gauge 0).monitor.held = some { result with valid := false }) ∧
    (let s := due (.result 0) (holdGauge result cancelling)
     s.nextIs (.result 0) ∧ (s.gauge 0).state = .cancelling 8000000) ∧
    (∀ s ∈ [due (.timeout 0) (atTime 8000000 measuring), due (.timeout 0) (atTime 8000000 cancelling)],
      s.nextIs (.timeout 0) ∧ 0 ≤ (s.now - 8000000).toInt) ∧
    ((due (.timeout 0) (atTime 7999999 measuring)).now - 8000000).toInt < 0 := by decide +kernel

/-- A cancel whose unit stays busy. -/
theorem witness_GaugeRows_busy :
    let s := due (.result 0) (holdGauge { result with busy := true } cancelling)
    s.nextIs (.result 0) ∧ (s.gauge 0).monitor.held = some { result with busy := true } ∧
      (s.gauge 0).state = .cancelling 8000000 := by decide +kernel

/-- The tracker's pieces: the sample accepted, its count at the point, the entry in its list. -/
abbrev passing (w : Work) (e : Entry) (count : Nat) : Prop :=
  let s := due w (tracked e count)
  s.nextIs w ∧ InputField.stand 2 ∈ s.frame.fresh ∧ (s.stand 2).monitor.held = some { sample with length := BitVec.ofNat 32 count } ∧
    s.trackersSound ∧ (s.group 1).tracker = [e] ∧ e.stand = 2

/-- One HOLD checkpoint passed, and two at one sample. -/
theorem witness_EntryPoints :
    passing (.holds 2) entry 1000314310 ∧ checkpointCount (base.path 2).table = 3 ∧
    isHold (base.path 2).table 0 = true ∧ isHold (base.path 2).table 1 = true ∧ isHold (base.path 2).table 2 = false ∧
    pathLength (base.path 2).table 0 = 300000 ∧ pathLength (base.path 2).table 1 = 650000 := by decide +kernel

theorem witness_EntryPoints_two : passing (.holds 2) entry 1000664310 := by decide +kernel

theorem witness_EntryPoints_reject :
    passing (.reject 2) { entry with next := 2 } 1001211310 ∧ isHold (base.path 2).table 2 = false ∧
    pathLength (base.path 2).table (checkpointCount (base.path 2).table - 1) = 1200000 ∧ preMargin (base.group 1).table = 3000 := by
  decide +kernel

theorem witness_EntriesLeave :
    passing (.clear 2) issued 1001714310 ∧ issued.rejectIssued = true ∧ (base.group 1).table[5].toNat * 10000 = 500000 ∧
    (let s := tracked { entry with next := 2 } 1001211310
     let s : State := { s with frame := { s.frame with recovery := true } }
     s.frame.recovery = true ∧ s.trackersSound ∧ (s.group 1).tracker = [{ entry with next := 2 }]) := by decide +kernel

/-- A count one short of each point, and entries past it or not yet at it. -/
theorem witness_EntryPoints_short :
    (∀ a ∈ [(Work.holds 2, entry, 1000314309), (.reject 2, { entry with next := 2 }, 1001211309), (.clear 2, issued, 1001714309)],
      passing a.1 a.2.1 a.2.2) ∧
    ((1000314309 : BitVec 32) - (entry.contactLength + 300000)).toInt < 0 ∧
    ((1001211309 : BitVec 32) - (entry.contactLength + 1200000 - 3000)).toInt < 0 ∧
    ((1001714309 : BitVec 32) - (entry.contactLength + 1200000 + 500000)).toInt < 0 ∧
    entry.rejectIssued = false ∧ issued.rejectIssued = true ∧ isHold (base.path 2).table 2 = false := by decide +kernel

theorem witness_EventQueue :
    base.eventsSound ∧ base.responder.events.length < 32 ∧
    ¬({ base with responder := { base.responder with events := List.replicate 32 ⟨.timeBack, none, none, 0, 0, none⟩ } } :
      State).responder.events.length < 32 := by decide +kernel

/-- The invariants hold of the worked stand in BRUSH with a load held pending, and a step is taken from it. -/
theorem witness_invariants :
    let s := (inState (.pasting .brush)).onStand 2 fun st => { st with pendingLoad := some latencyLoad }
    s.tablesSound ∧ s.placementSound ∧ s.pendingSound := by decide +kernel

theorem witness_invariants_step :
    let s := (inState (.pasting .brush)).onStand 2 fun st => { st with pendingLoad := some latencyLoad }
    step { s with pending := [.disable (order 2)] } = exec (.disable (order 2)) s := rfl

end Sys2Proof.Tests
end

section
/-!
PROOFS. The stand orders ENABLE, PARK, AUTO ON, AUTO OFF, UNMOUNT, RANGE, SPLICE-NOW and CLEAR-FAULT (R10, R12, R15 to R18, R20).
First what the shared operations of these orders do, then one statement an order.
-/

namespace Sys2Proof.Machine

/-! ### A stand order answered (R9, R168) -/

section

variable {i : Instr} {f : Frame} {s t : State} {len : Nat} {n : StandNo} {act : List Word → StandNo → State → Answer}

/-- R169: a stand order that its own rule refuses is answered with the refusal's code, all else as it stands. -/
theorem standOrder_refused {c : ReplyStatus} (run : exec i s = .next (serve f s (standOrder f len act))) (h : s.ordered f len n)
    (l : 2 ≤ len) (a : act (f.slots.take len) n s = refuse c s) : exec i s = .next (s.answered f c []) := by
  obtain ⟨hears, -, -, room, due⟩ := h.1
  rw [run, serve_refuse hears room due ((standOrder_ordered h l act).trans a)]

/-- R168: a stand order that its own rule takes is answered DONE, with its effects in place. -/
theorem standOrder_taken (run : exec i s = .next (serve f s (standOrder f len act))) (h : s.ordered f len n)
    (l : 2 ≤ len) (a : act (f.slots.take len) n s = taken t) : exec i s = .next (t.answered f .done []) := by
  obtain ⟨hears, -, -, room, due⟩ := h.1
  rw [run, serve_taken hears room due ((standOrder_ordered h l act).trans a)]

end

/-! ### The rows, each by its stand's rule -/

section

variable (f : Frame) (s : State)

theorem exec_enable : exec (.enable f) s = .next (serve f s (standOrder f 2 fun _ n s => orderEnable n s)) := rfl

theorem exec_park : exec (.park f) s = .next (serve f s (standOrder f 2 fun _ n s => orderPark n s)) := rfl

theorem exec_unmount : exec (.unmount f) s = .next (serve f s (standOrder f 2 fun _ n s => orderUnmount n s)) := rfl

theorem exec_range : exec (.range f) s = .next (serve f s (standOrder f 2 fun _ n s => orderRange n s)) := rfl

theorem exec_autoOn : exec (.autoOn f) s = .next (serve f s (standOrder f 2 fun _ n s => orderAuto true n s)) := rfl

theorem exec_autoOff : exec (.autoOff f) s = .next (serve f s (standOrder f 2 fun _ n s => orderAuto false n s)) := rfl

theorem exec_spliceNow : exec (.spliceNow f) s = .next (serve f s (standOrder f 2 fun _ n s => orderSpliceNow n s)) := rfl

theorem exec_clearFault : exec (.clearFault f) s = .next (serve f s (standOrder f 2 fun _ n s => orderClearFault n s)) := rfl

end

/-! ### The conditions that the orders test -/

/-- R12, R14: the states open to PARK and MOUNT, listed. -/
theorem StandState.feedsIdle_iff (x : StandState) : x.feedsIdle ↔ x ∈ [StandState.running, .loaded, .ready] := by
  cases x <;> simp [StandState.feedsIdle]

/-- R15: the states open to UNMOUNT, listed. -/
theorem StandState.admitsUnmount_iff (x : StandState) :
    x.admitsUnmount ↔ x ∈ [StandState.loaded, .ranging, .ready, .waiting] := by
  cases x <;> simp [StandState.admitsUnmount]

/-- R10: the four tables that ENABLE asks for. -/
theorem State.tablesReady_iff (s : State) (n : StandNo) :
    s.tablesReady n ↔ (s.stand n).loaded ∧ (s.path n).loaded ∧ (s.group (groupEntry (s.stand n).table)).loaded ∧
      (∀ g, gaugeEntry (s.stand n).table = some g → (s.gauge g).loaded) := by
  unfold State.tablesReady State.groupOf
  cases gaugeEntry (s.stand n).table <;> simp [and_assoc]

/-- R163: the held web speed reaches the minimum of entry 27. -/
theorem Stand.fastEnough_iff (st : Stand) :
    st.fastEnough ↔ ∃ v, st.monitor.held = some v ∧ minimumSpeed st.table ≤ v.webSpeed := by
  unfold Stand.fastEnough
  cases st.monitor.held <;> simp

/-- R4: without web present at the last accepted sample the settled state is PARKED. -/
theorem Stand.settled_of_noWeb {st : Stand} (h : st.webHeld = false) : st.settled = .parked := by
  simp [Stand.settled, h]

/-- R4: with web present the settled state is that of the new-reel record. -/
theorem Stand.settled_of_web {st : Stand} (h : st.webHeld) :
    st.settled = match st.newReel with
      | some r => (match r.diameter with | some _ => .ready | none => .loaded)
      | none => .running := by
  unfold Stand.settled
  rw [if_pos h]
  cases st.newReel with
  | none => rfl
  | some r => cases e : r.diameter <;> simp [e]

/-- R4: with web present a stand does not settle in PARKED. -/
theorem Stand.settled_ne_parked {st : Stand} (h : st.webHeld) : st.settled ≠ .parked := by
  rw [Stand.settled_of_web h]
  split
  · split <;> simp
  · simp

/-! ### What the orders do -/

/-- R10: a stand in PARKED takes nothing from an accepted sample. -/
theorem perform_sample_parked {s : State} {n : StandNo} (h : (s.stand n).state = .parked) : perform (.sample n) s = s := by
  have work : sampleWork n s = s := by
    unfold sampleWork
    cases (s.stand n).monitor.held <;> simp [handleSample, h]
  simp [perform, work]

/-- R8: a stand in PARKED holds no deadline. -/
theorem perform_deadline_parked {s : State} {n : StandNo} (h : (s.stand n).state = .parked) :
    perform (.deadline n) s = s := by
  simp [perform, deadlineWork, h]

/-- R114, R120: a stand leaves its gauge by one change of it, whether it is measured there or waits in the queue. -/
theorem leaveGauge_eq {s : State} {n : StandNo} {g : GaugeNo} (h : gaugeEntry (s.stand n).table = some g) :
    leaveGauge n s = s.onGauge g fun u =>
      if u.measures n then { u with state := .cancelling (s.now + BitVec.ofNat 32 (1000 * measureTimeout u.table)) }
      else { u with queue := u.queue.filter (· != n) } := by
  simp only [leaveGauge, h]
  split
  · next m => exact s.onGauge_congr (by simp [m, addMs])
  · next m => exact s.onGauge_congr (by simp [m])

/-- R15: in LOADED and READY the stand is in no queue and no waiting set. -/
theorem unmountReel_idle {s : State} {n : StandNo} (h : (s.stand n).state ∈ [StandState.loaded, .ready]) :
    unmountReel n s = settleStand n (s.onStand n fun st => { st with state := .running, newReel := none }) := by
  rcases List.mem_pair.1 h with e | e <;> simp [unmountReel, e]

/-- R15, R5: in WAITING the stand withdraws its wait. -/
theorem unmountReel_waiting {s : State} {n : StandNo} (h : (s.stand n).state = .waiting) :
    unmountReel n s =
      settleStand n ((s.onGroup (s.groupOf n) fun g => { g with waiting := g.waiting.set n.val false }).onStand n fun st =>
        { st with state := .running, newReel := none, urgent := false, forced := false }) := by
  simp only [unmountReel, h, withdrawWait, leaveWaiting, State.onStand_onStand]

/-- R15, R114: in RANGING the stand leaves its gauge. -/
theorem unmountReel_ranging {s : State} {n : StandNo} (h : (s.stand n).state = .ranging) :
    unmountReel n s =
      settleStand n ((leaveGauge n s).onStand n fun st => { st with state := .running, newReel := none }) := by
  simp only [unmountReel, h]

/-- R22, R96: entry to WAITING changes the stand, whose group stays, and that group's waiting set. -/
theorem enterWaiting_eq (n : StandNo) (urgent : Bool) (s : State) :
    enterWaiting n urgent s =
      (s.onStand n fun st => { st with state := .waiting, urgent := urgent, forced := false }).onGroup (s.groupOf n)
        fun g => { g with waiting := g.waiting.set n.val true } := by
  simp [enterWaiting, joinWaiting, State.groupOf]

/-- R20: without web present CLEAR-FAULT sends the stand to PARKED, and no baseline is re-taken. -/
theorem Stand.faultCleared_of_noWeb {st : Stand} (h : st.webHeld = false) :
    st.faultCleared = { st with faultCode := none, state := .parked } := by
  simp [Stand.faultCleared, Stand.settled_of_noWeb h]

/-- R20, R37: with web present CLEAR-FAULT re-takes the baseline of the expiring-reel record from the held sample. -/
theorem Stand.faultCleared_of_web {st : Stand} {v : StandSample} (held : st.monitor.held = some v) (web : v.web = true) :
    st.faultCleared =
      { st with
        faultCode := none
        expiring := st.expiring.map fun r => { r with lastRevolution := v.revolutions, lastLatched := v.latched }
        state := match st.newReel with
          | some r => (match r.diameter with | some _ => .ready | none => .loaded)
          | none => .running } := by
  have present : st.webHeld := by simpa [Stand.webHeld, held] using web
  simp only [Stand.faultCleared, Stand.settled_ne_parked present, if_false, Stand.retakeBaseline, held]
  rw [Stand.settled_of_web present]

end Sys2Proof.Machine

/-! ### The orders settled -/

namespace Sys2Proof.Proofs

open Sys2Proof.Machine

/-- Settles O9: ENABLE by the stand's state and the tables it needs, and R10's last sentence on PARKED. -/
theorem enable : Obligations.Enable := by
  intro f s n h
  refine ⟨fun state => ?_, fun offline => ⟨fun ready => ?_, fun missing => ?_⟩, perform_sample_parked⟩
  · exact standOrder_refused (exec_enable f s) h le_rfl (if_neg state)
  · have ready := (s.tablesReady_iff n).2 ready
    exact standOrder_taken (exec_enable f s) h le_rfl ((if_pos offline).trans (if_pos ready))
  · have missing := mt (s.tablesReady_iff n).1 missing
    exact standOrder_refused (exec_enable f s) h le_rfl ((if_pos offline).trans (if_neg missing))

/-- Settles O11: PARK by the states open to it, AUTO ON and AUTO OFF outside OFFLINE, and what PARKED does not do. -/
theorem parkAndAuto : Obligations.ParkAndAuto := by
  intro f s n
  refine ⟨fun h => ⟨fun state => ?_, fun state => ?_, fun state => ⟨?_, ?_⟩, fun offline => ⟨?_, ?_⟩⟩,
    fun parked => ⟨perform_sample_parked parked, perform_deadline_parked parked⟩⟩
  · have admitted := (StandState.feedsIdle_iff _).2 state
    exact standOrder_taken (exec_park f s) h le_rfl (if_pos admitted)
  · have barred := mt (StandState.feedsIdle_iff _).1 state
    exact standOrder_refused (exec_park f s) h le_rfl (if_neg barred)
  · exact standOrder_taken (exec_autoOn f s) h le_rfl (if_neg state)
  · exact standOrder_taken (exec_autoOff f s) h le_rfl (if_neg state)
  · exact standOrder_refused (exec_autoOn f s) h le_rfl (if_pos offline)
  · exact standOrder_refused (exec_autoOff f s) h le_rfl (if_pos offline)

/-- Settles O14: UNMOUNT by the state that the stand leaves, with its wait withdrawn or its gauge left. -/
theorem unmount : Obligations.Unmount := by
  intro f s n h
  have admitted (state : (s.stand n).state ∈ [StandState.loaded, .ranging, .ready, .waiting]) :
      exec (.unmount f) s = .next ((unmountReel n s).answered f .done []) :=
    standOrder_taken (exec_unmount f s) h le_rfl (if_pos ((StandState.admitsUnmount_iff _).2 state))
  refine ⟨fun barred => ?_, fun idle => ?_, fun waiting => ?_, fun g ranging gauge => ?_⟩
  · exact standOrder_refused (exec_unmount f s) h le_rfl (if_neg (mt (StandState.admitsUnmount_iff _).1 barred))
  · rw [admitted (by rcases List.mem_pair.1 idle with e | e <;> simp [e]), unmountReel_idle idle]
  · rw [admitted (by simp [waiting]), unmountReel_waiting waiting]
  · rw [admitted (by simp [ranging]), unmountReel_ranging ranging, leaveGauge_eq gauge]

/-- Settles O15: RANGE by the stand's state, then by the gauge that entry 1 names. -/
theorem rangeOrder : Obligations.RangeOrder := by
  intro f s n h
  refine ⟨fun barred => ?_, fun state noGauge => ?_, fun g state gauge => ?_⟩
  · exact standOrder_refused (exec_range f s) h le_rfl (if_neg (mt List.mem_pair.2 barred))
  · exact standOrder_refused (exec_range f s) h le_rfl (by
      simp only [orderRange, if_pos (List.mem_pair.1 state), noGauge])
  · exact standOrder_taken (exec_range f s) h le_rfl (by
      simp only [orderRange, if_pos (List.mem_pair.1 state), gauge]; rfl)

/-- Settles O16: SPLICE-NOW by the stand's state, then by its held web speed. -/
theorem spliceNow : Obligations.SpliceNow := by
  intro f s n h
  refine ⟨fun barred => ?_, fun ready => ⟨fun slow => ?_, fun v held fast => ?_⟩⟩
  · exact standOrder_refused (exec_spliceNow f s) h le_rfl (if_neg barred)
  · have slow : ¬(s.stand n).fastEnough := by
      rw [Stand.fastEnough_iff]
      rintro ⟨v, held, fast⟩
      exact absurd (slow v held) (by omega)
    exact standOrder_refused (exec_spliceNow f s) h le_rfl ((if_pos ready).trans (if_neg slow))
  · have fast := (Stand.fastEnough_iff _).2 ⟨v, held, fast⟩
    rw [← enterWaiting_eq]
    exact standOrder_taken (exec_spliceNow f s) h le_rfl ((if_pos ready).trans (if_pos fast))

/-- Settles O18: CLEAR-FAULT by the stand's state, then by the held web presence that the settled state rests on. -/
theorem clearFault : Obligations.ClearFault := by
  intro f s n h
  refine ⟨fun barred => ?_, fun fault => ?_⟩
  · exact standOrder_refused (exec_clearFault f s) h le_rfl (if_neg barred)
  have cleared {k : Stand → Stand} (effect : (s.stand n).faultCleared = k (s.stand n)) :
      exec (.clearFault f) s = .next ((s.onStand n k).answered f .done []) :=
    standOrder_taken (exec_clearFault f s) h le_rfl
      ((if_pos fault).trans (congrArg taken (s.onStand_congr effect)))
  refine ⟨fun absent => ?_, fun v held web => ?_⟩
  · have noWeb : (s.stand n).webHeld = false := by
      rcases absent with unheld | ⟨v, held, web⟩ <;> simp [Stand.webHeld, *]
    exact cleared (Stand.faultCleared_of_noWeb noWeb)
  · exact cleared (Stand.faultCleared_of_web held web)

end Sys2Proof.Proofs
end

section
/-!
PROOFS. One step of diameter tracking: stages A, B and C of the Reel Arithmetic (R50 to R53, R56, R58).
First the rules of stage A, then what a tracking step writes into the expiring-reel record.
-/

namespace Sys2Proof.Machine

/-! ### Stage A: the candidate and its acceptance (R51, R52) -/

/-- R51: the two factors of the rounded quotient's numerator written in the order of the statements. -/
theorem candidateDiameter_eq (l : Nat) : candidateDiameter l = min 15000 ((2 * l * 113 + 355) / 710) := by
  rw [candidateDiameter, divNearest, ← Nat.mul_assoc]

/-- R51: the clamp. -/
theorem candidateDiameter_le (l : Nat) : candidateDiameter l ≤ 15000 := Nat.min_le_left ..

@[simp] theorem acceptCandidate_none (core c : Nat) :
    acceptCandidate none core c = if core < c then some c else none := rfl

@[simp] theorem acceptCandidate_some (e core c : Nat) :
    acceptCandidate (some e) core c = if c ≤ e + 50 then some c else some e := rfl

/-- R52: the estimate after the test is the candidate or the estimate before it. -/
theorem acceptCandidate_eq_some {estimate : Option Nat} {core c d : Nat} (h : acceptCandidate estimate core c = some d) :
    (d = c ∧ ∀ b, estimate = some b → c ≤ b + 50) ∨ estimate = some d := by
  cases estimate with
  | none =>
    obtain ⟨-, rfl⟩ : core < c ∧ c = d := by simpa using h
    exact .inl ⟨rfl, by simp⟩
  | some e =>
    rw [acceptCandidate_some] at h
    split at h
    · next near => exact .inl ⟨(Option.some.inj h).symm, fun b hb => Option.some.inj hb ▸ near⟩
    · exact .inr h

/-! ### Stage A on the record (R50, R53) -/

section

variable {r : ExpiringReel} {core : Nat} {v : StandSample}

/-- R50: without a revolution stage A leaves the estimate and the baseline. -/
theorem stageA_of_step_zero (h : revolutionStep v.revolutions r.lastRevolution = 0) :
    stageA r core v = (r.estimate.map (·.diameter), r.lastRevolution, r.lastLatched) := if_pos h

/-- R52, R53: from a revolution step of 1 on, the candidate is judged and the baseline moves whatever the judgement. -/
theorem stageA_of_step_ne_zero (h : revolutionStep v.revolutions r.lastRevolution ≠ 0) :
    stageA r core v =
      (acceptCandidate (r.estimate.map (·.diameter)) core
        (candidateDiameter (revolutionLength v.latched r.lastLatched (revolutionStep v.revolutions r.lastRevolution))),
        v.revolutions, v.latched) := if_neg h

/-- R50, R52: what stage A can answer: the estimate it found, or a clamped candidate no more than 50 above it. -/
theorem stageA_eq_some {d : Nat} (h : (stageA r core v).1 = some d) :
    (d ≤ 15000 ∧ ∀ b, r.estimate.map (·.diameter) = some b → d ≤ b + 50) ∨ r.estimate.map (·.diameter) = some d := by
  by_cases k : revolutionStep v.revolutions r.lastRevolution = 0
  · rw [stageA_of_step_zero k] at h
    exact .inr h
  · rw [stageA_of_step_ne_zero k] at h
    refine (acceptCandidate_eq_some h).imp_left ?_
    rintro ⟨rfl, near⟩
    exact ⟨candidateDiameter_le _, near⟩

end

/-! ### What a tracking step writes (R49) -/

section

variable (r : ExpiringReel) (core ds : Nat) (v : StandSample)

@[simp] theorem trackReel_ident : (trackReel r core ds v).ident = r.ident := rfl

@[simp] theorem trackReel_caliper : (trackReel r core ds v).caliper = r.caliper := rfl

@[simp] theorem trackReel_origin : (trackReel r core ds v).origin = r.origin := rfl

@[simp] theorem trackReel_lowReported : (trackReel r core ds v).lowReported = r.lowReported := rfl

@[simp] theorem trackReel_lastRevolution : (trackReel r core ds v).lastRevolution = (stageA r core v).2.1 := rfl

@[simp] theorem trackReel_lastLatched : (trackReel r core ds v).lastLatched = (stageA r core v).2.2 := rfl

/-- The diameter after the step is stage A's answer. -/
@[simp] theorem trackReel_diameter :
    (trackReel r core ds v).estimate.map (·.diameter) = (stageA r core v).1 := by
  simp [trackReel, Option.map_map, Function.comp_def]

end

/-- R56, R58: stages B and C are computed afresh from the diameter that the step leaves. -/
theorem trackReel_estimate {r : ExpiringReel} {core ds : Nat} {v : StandSample} {e : Estimate}
    (h : (trackReel r core ds v).estimate = some e) :
    e.length = remainingLength e.diameter ds r.caliper ∧ e.time = remainingTime e.length v.webSpeed := by
  obtain ⟨d, -, rfl⟩ := Option.map_eq_some_iff.1 h
  exact ⟨rfl, rfl⟩

/-- R52's last sentence: the step keeps an estimate within 0 to 15000, and raises a present one by at most 50. -/
theorem trackReel_diameter_bounded {r : ExpiringReel} {core ds : Nat} {v : StandSample} {e : Estimate}
    (sound : ∀ b, r.estimate = some b → b.diameter ≤ 15000) (h : (trackReel r core ds v).estimate = some e) :
    e.diameter ≤ 15000 ∧ ∀ b, r.estimate.map (·.diameter) = some b → e.diameter ≤ b + 50 := by
  have answer : (stageA r core v).1 = some e.diameter := by
    rw [← trackReel_diameter r core ds v, h, Option.map_some]
  rcases stageA_eq_some answer with taken | kept
  · exact taken
  · obtain ⟨b, present, same⟩ := Option.map_eq_some_iff.1 kept
    refine ⟨same ▸ sound b present, fun b' hb => ?_⟩
    have : e.diameter = b' := Option.some.inj (kept.symm.trans hb)
    omega

end Sys2Proof.Machine

namespace Sys2Proof.Proofs

open Sys2Proof.Machine

/-- Settles O40: stage A by the revolution step, stages B and C from the diameter it leaves, and the bound of R52. -/
theorem diameterTracking : Obligations.DiameterTracking := by
  intro r core ds v
  refine ⟨by simp only [trackReel_ident, trackReel_caliper, trackReel_origin, trackReel_lowReported, and_self],
    fun idle => ?_, fun turned => ?_, fun _ => trackReel_estimate, fun sound _ => trackReel_diameter_bounded sound⟩
  · have answer := stageA_of_step_zero (core := core) idle
    simp only [trackReel_diameter, trackReel_lastRevolution, trackReel_lastLatched, answer, and_self]
  · have answer := stageA_of_step_ne_zero (core := core) turned
    rw [candidateDiameter_eq] at answer
    refine ⟨congrArg (·.2.1) answer, congrArg (·.2.2) answer, fun absent => ?_, fun e present => ?_⟩
    · rw [trackReel_diameter, answer, absent]
      exact acceptCandidate_none core _
    · rw [trackReel_diameter, answer, present]
      exact acceptCandidate_some e core _

end Sys2Proof.Proofs
end

section
/-!
PROOFS. TAKE EVENTS and CLEAR ATTENTION (R178, R181).
First the rules of items placed in a slot (R184), then the layout of an event record (R190), then one statement a request.
-/

namespace Sys2Proof.Machine

/-! ### Items of a slot (R184) -/

/-- R184: a number read from a slot, bit by bit. -/
theorem testBit_bits (w : Word) (lo len i : Nat) :
    (bits w lo len).testBit i = (decide (i < len) && bitOf w (lo + i)) := by
  simp [bits, bitOf, BitVec.testBit_toNat]

@[simp] theorem bitOf_zero (i : Nat) : bitOf 0#32 i = false := BitVec.getLsbD_zero

/-- A yes or no is read item by item from a slot put together of items. -/
@[simp] theorem bitOf_or (x y : Word) (i : Nat) : bitOf (x ||| y) i = (bitOf x i || bitOf y i) := BitVec.getLsbD_or

/-- A number is read item by item from a slot put together of items. -/
@[simp] theorem bits_or (x y : Word) (lo len : Nat) : bits (x ||| y) lo len = bits x lo len ||| bits y lo len := by
  simp [bits, BitVec.extractLsb'_or]

/-- A number reads 0 where no bit of it is set. -/
theorem bits_eq_zero {w : Word} {lo len : Nat} (clear : ∀ i, lo ≤ i → i < lo + len → bitOf w i = false) :
    bits w lo len = 0 := by
  refine Nat.eq_of_testBit_eq fun i => ?_
  rw [testBit_bits, Nat.zero_testBit]
  by_cases h : i < len
  · simp [clear (lo + i) (by omega) (by omega)]
  · simp [h]

/-- R184: the bits of a placed number. -/
theorem bitOf_place (v lo i : Nat) :
    bitOf (place v lo) i = (decide (i < 32) && (decide (lo ≤ i) && v.testBit (i - lo))) := by
  simp [bitOf, place, BitVec.getLsbD_ofNat, Nat.testBit_shiftLeft]

/-- A placed number leaves the bits below its place clear. -/
theorem bitOf_place_below {v lo i : Nat} (h : i < lo) : bitOf (place v lo) i = false := by
  have : ¬lo ≤ i := by omega
  simp [bitOf_place, this]

/-- A placed number leaves the bits above its width clear. -/
theorem bitOf_place_above {v lo i : Nat} (h : v < 2 ^ (i - lo)) : bitOf (place v lo) i = false := by
  simp [bitOf_place, Nat.testBit_lt_two_pow h]

/-- R184: a placed number is read back at its place. -/
theorem bits_place {v lo len : Nat} (fits : v < 2 ^ len) (inside : lo + len ≤ 32) : bits (place v lo) lo len = v := by
  refine Nat.eq_of_testBit_eq fun i => ?_
  rw [testBit_bits, bitOf_place]
  by_cases h : i < len
  · have : lo + i < 32 := by omega
    simp [h, this]
  · have : v < 2 ^ i := fits.trans_le (Nat.pow_le_pow_right (by decide) (by omega))
    simp [h, Nat.testBit_lt_two_pow this]

/-- A number read below the place of another one is 0 there. -/
theorem bits_place_below {v lo l len : Nat} (h : l + len ≤ lo) : bits (place v lo) l len = 0 :=
  bits_eq_zero fun _ _ _ => bitOf_place_below (by omega)

/-- A number read above the width of another one is 0 there. -/
theorem bits_place_above {v lo l len : Nat} (h : v < 2 ^ (l - lo)) : bits (place v lo) l len = 0 :=
  bits_eq_zero fun _ _ _ => bitOf_place_above (h.trans_le (Nat.pow_le_pow_right (by decide) (by omega)))

/-- A yes or no is read back at its bit, and every other bit is clear. -/
theorem bitOf_placeBit (b : Bool) {lo : Nat} (inside : lo < 32) (i : Nat) :
    bitOf (placeBit b lo) i = (b && decide (i = lo)) := by
  cases b with
  | false => exact bitOf_zero i
  | true =>
    rcases Nat.lt_trichotomy i lo with below | rfl | above
    · exact (bitOf_place_below below).trans (by simp; omega)
    · simp [placeBit, bitOf_place, inside]
    · exact (bitOf_place_above (Nat.one_lt_two_pow (by omega))).trans (by simp; omega)

/-- A number read beside the bit of a yes or no is 0 there. -/
theorem bits_placeBit {b : Bool} {lo l len : Nat} (inside : lo < 32) (h : l + len ≤ lo ∨ lo < l) :
    bits (placeBit b lo) l len = 0 :=
  bits_eq_zero fun i _ _ => by
    have : i ≠ lo := by omega
    simp [bitOf_placeBit b inside, this]

/-! ### Records in a payload -/

@[simp] theorem slotAt_cons_zero (w : Word) (ws : List Word) : slotAt (w :: ws) 0 = w := rfl

@[simp] theorem slotAt_cons_succ (w : Word) (ws : List Word) (i : Nat) : slotAt (w :: ws) (i + 1) = slotAt ws i := rfl

/-- R190: records of `c` slots each: slot `i` of record `k` of the list. -/
theorem slotAt_flatMap {α : Type} {record : α → List Word} {c : Nat} (size : ∀ a, (record a).length = c) {i : Nat} (h : i < c)
    {l : List α} {k : Nat} {a : α} (found : l[k]? = some a) : slotAt (l.flatMap record) (c * k + i) = slotAt (record a) i := by
  induction l generalizing k with
  | nil => simp at found
  | cons b l ih =>
    cases k with
    | zero =>
      obtain rfl : b = a := by simpa using found
      simp [slotAt, List.getD_eq_getElem?_getD, List.getElem?_append_left, size, h]
    | succ k =>
      have skip : (record b).length ≤ c * (k + 1) + i := by rw [size, Nat.mul_succ]; omega
      have rest : c * (k + 1) + i - c = c * k + i := by rw [Nat.mul_succ]; omega
      rw [← ih (by simpa using found)]
      simp [slotAt, List.getD_eq_getElem?_getD, List.getElem?_append_right skip, size, rest]

/-! ### The layout of an event record (R190) -/

/-- R191: the event codes run up to 26. -/
theorem eventNumber_lt {m : Nat} (h : 26 < m) (k : EventKind) : eventNumber k < m := by
  refine Nat.lt_of_le_of_lt ?_ h
  cases k <;> decide

/-- R190: a stand's number, or 0, lies within 0 to 7. -/
theorem standItem_lt {m : Nat} (h : 7 < m) (n : Option StandNo) : (n.map (·.val)).getD 0 < m := by
  cases n with
  | none => simp; omega
  | some n => simp; omega

/-- R190: outside its bits 16 to 21 the item of a group or gauge is clear. -/
theorem bitOf_unitItem {u : Option EventUnit} {i : Nat} (h : i < 16 ∨ 22 ≤ i) : bitOf (unitItem u) i = false := by
  have number (g : Fin 4) : bitOf (place g.val 20) i = false := by
    have fits : g.val < 2 ^ 2 := g.isLt
    rcases h with below | above
    · exact bitOf_place_below (by omega)
    · exact bitOf_place_above (fits.trans_le (Nat.pow_le_pow_right (by decide) (by omega)))
  have kind : i ≠ 16 ∧ i ≠ 17 := by omega
  rcases u with _ | g | g <;> simp [unitItem, bitOf_placeBit, number, kind]

/-- R190: a number read outside bits 16 to 21 finds nothing of the item of a group or gauge. -/
theorem bits_unitItem {u : Option EventUnit} {l len : Nat} (h : l + len ≤ 16 ∨ 22 ≤ l) : bits (unitItem u) l len = 0 :=
  bits_eq_zero fun _ _ _ => bitOf_unitItem (by omega)

/-- R190: bit 16 says whether a group or gauge is named. -/
theorem unitItem_present (u : Option EventUnit) : bitOf (unitItem u) 16 = u.isSome := by
  rcases u with _ | g | g <;> simp [unitItem, bitOf_placeBit, bitOf_place_below]

/-- R190: bit 17 clear names a group. -/
theorem unitItem_group (g : GroupNo) :
    bitOf (unitItem (some (.group g))) 17 = false ∧ bits (unitItem (some (.group g))) 20 2 = g.val := by
  have fits : g.val < 2 ^ 2 := g.isLt
  simp [unitItem, bitOf_placeBit, bitOf_place_below, bits_placeBit, bits_place fits]

/-- R190: bit 17 set names a gauge. -/
theorem unitItem_gauge (g : GaugeNo) :
    bitOf (unitItem (some (.gauge g))) 17 = true ∧ bits (unitItem (some (.gauge g))) 20 2 = g.val := by
  have fits : g.val < 2 ^ 2 := g.isLt
  simp [unitItem, bitOf_placeBit, bitOf_place_below, bits_placeBit, bits_place fits]

section

variable (e : Event)

theorem length_eventSlots : (eventSlots e).length = 4 := rfl

/-- R190: slot 0 of an event record, item by item. -/
theorem slotAt_eventSlots_zero :
    slotAt (eventSlots e) 0 =
      place (eventNumber e.kind) 0 ||| placeBit e.stand.isSome 8 ||| place ((e.stand.map (·.val)).getD 0) 12
        ||| unitItem e.unit ||| placeBit e.detail.isSome 24 := rfl

theorem eventSlots_kind : bits (slotAt (eventSlots e) 0) 0 8 = eventNumber e.kind := by
  simp [slotAt_eventSlots_zero, bits_place, eventNumber_lt, bits_placeBit, bits_place_below, bits_unitItem]

theorem eventSlots_stand_present : bitOf (slotAt (eventSlots e) 0) 8 = e.stand.isSome := by
  simp [slotAt_eventSlots_zero, bitOf_place_above, eventNumber_lt, bitOf_placeBit, bitOf_place_below, bitOf_unitItem]

theorem eventSlots_stand : bits (slotAt (eventSlots e) 0) 12 3 = (e.stand.map (·.val)).getD 0 := by
  simp [slotAt_eventSlots_zero, bits_place_above, eventNumber_lt, bits_placeBit, bits_place, standItem_lt, bits_unitItem]

/-- R190: bits 16 to 21 are those of the item of the group or gauge. -/
theorem eventSlots_unit :
    bitOf (slotAt (eventSlots e) 0) 16 = bitOf (unitItem e.unit) 16 ∧
    bitOf (slotAt (eventSlots e) 0) 17 = bitOf (unitItem e.unit) 17 ∧
    bits (slotAt (eventSlots e) 0) 20 2 = bits (unitItem e.unit) 20 2 := by
  simp [slotAt_eventSlots_zero, bitOf_place_above, bits_place_above, eventNumber_lt, standItem_lt, bitOf_placeBit, bits_placeBit]

theorem eventSlots_detail_present : bitOf (slotAt (eventSlots e) 0) 24 = e.detail.isSome := by
  simp [slotAt_eventSlots_zero, bitOf_place_above, eventNumber_lt, standItem_lt, bitOf_placeBit, bitOf_unitItem]

theorem eventSlots_cycle : bits (slotAt (eventSlots e) 1) 0 16 = e.cycle.toNat := bits_place e.cycle.isLt (by decide)

theorem eventSlots_time : slotAt (eventSlots e) 2 = e.time := rfl

theorem eventSlots_detail : slotAt (eventSlots e) 3 = BitVec.ofNat 32 (e.detail.getD 0) := rfl

end

/-! ### Replies with a payload (R168) -/

/-- R168: an answer that fits its reply area leaves as it is, with its effects in place. -/
theorem serve_answers {f : Frame} {s : State} (h : s.hears f) (r : replyRoom f ≠ 0) (d : s.frame.due = []) {act : State → Answer}
    {a : Answer} (e : act s = a) (fits : 1 + a.payload.length ≤ replyRoom f) :
    serve f s act = a.state.answered f a.status a.payload := by
  rw [serve_hears h r d, e, if_neg (by omega)]

/-! ### TAKE EVENTS (R181) -/

section

variable {f : Frame} {s : State} {count : Nat}

/-- R181: a count outside 1 to 8 is refused. -/
theorem exec_takeEvents_refused (h : s.asked f 2) (number : bits (slotAt f.slots 1) 0 8 = count) (outside : count = 0 ∨ 8 < count) :
    exec (.takeEvents f) s = .next (s.answered f .range []) := by
  obtain ⟨hears, -, -, room, due⟩ := id h
  refine congrArg Host.Outcome.next (serve_refuse hears room due ?_)
  rw [withArea_asked h, slotAt_take (by decide), number]
  exact if_neg (by omega)

/-- R181: a count from 1 to 8 takes that many records. -/
theorem exec_takeEvents_taken (h : s.asked f 2) (number : bits (slotAt f.slots 1) 0 8 = count) (low : 1 ≤ count) (high : count ≤ 8)
    (fits : 1 + (takeRecords count s).payload.length ≤ replyRoom f) :
    exec (.takeEvents f) s =
      .next ((takeRecords count s).state.answered f .done (takeRecords count s).payload) := by
  obtain ⟨hears, -, -, room, due⟩ := id h
  refine congrArg Host.Outcome.next (serve_answers hears room due ?_ fits)
  rw [withArea_asked h, slotAt_take (by decide), number]
  exact if_pos ⟨low, high⟩

/-- R190: a slot that tells of the queue and four slots a record. -/
theorem takeRecords_length :
    (takeRecords count s).payload.length = 1 + 4 * min count s.responder.events.length := by
  simp [takeRecords, List.length_flatMap, length_eventSlots]
  omega

/-- R190: the first slot of the reply: the records in it, those that still wait, and the overflow flag. -/
theorem takeRecords_head (high : count ≤ 8) (sound : s.eventsSound) (low : 1 ≤ count) :
    bits (slotAt (takeRecords count s).payload 0) 0 4 = min count s.responder.events.length ∧
    bits (slotAt (takeRecords count s).payload 0) 8 6 = s.responder.events.length - count ∧
    bitOf (slotAt (takeRecords count s).payload 0) 16 = s.responder.overflow := by
  have sound : s.responder.events.length ≤ 32 := sound
  have removed {m : Nat} (h : 8 < m) : min count s.responder.events.length < m := by omega
  have rest {m : Nat} (h : 31 < m) : s.responder.events.length - count < m := by omega
  simp only [takeRecords, slotAt_cons_zero, List.length_take, List.length_drop]
  refine ⟨?_, ?_, ?_⟩
  · simp [bits_place, removed, bits_place_below, bits_placeBit]
  · simp [bits_place, bits_place_above, removed, rest, bits_placeBit]
  · simp [bitOf_place_above, removed, rest, bitOf_placeBit]

/-- R181, R190: the records in the reply are those of the queue's head, in its order. -/
theorem takeRecords_record {k i : Nat} {e : Event} (waits : s.responder.events[k]? = some e) (taken : k < count) (h : i < 4) :
    slotAt (takeRecords count s).payload (i + 1 + 4 * k) = slotAt (eventSlots e) i := by
  have head : (s.responder.events.take count)[k]? = some e := by rw [List.getElem?_take_of_lt taken, waits]
  rw [← slotAt_flatMap length_eventSlots h head, show i + 1 + 4 * k = 4 * k + i + 1 by omega]
  rfl

end

/-! ### CLEAR ATTENTION (R178) -/

/-- R178: CLEAR ATTENTION is always taken. -/
theorem exec_clearAttention {f : Frame} {s : State} (h : s.asked f 3) :
    exec (.clearAttention f) s =
      .next ((clearAttention (slotAt f.slots 1) (slotAt f.slots 2) s).answered f .done []) := by
  obtain ⟨hears, -, -, room, due⟩ := id h
  refine congrArg Host.Outcome.next (serve_taken hears room due ?_)
  rw [withArea_asked h, slotAt_take (by decide), slotAt_take (by decide)]

/-- R178: a flag goes where it is named, and stays where it is not. -/
theorem and_not_named (flag named : Bool) : (flag && !named) = if named then false else flag := by
  cases named <;> simp

/-- R178, R190: a stand's flags after the named ones are cleared. -/
theorem clearAttention_flagsOf (stands part : Word) (s : State) (n : StandNo) :
    (clearAttention stands part s).flagsOf n = clearNamed stands n.val (s.flagsOf n) := by
  simp [clearAttention, State.flagsOf]

end Sys2Proof.Machine

namespace Sys2Proof.Proofs

open Sys2Proof.Machine

/-- Settles O23: the payload is that of `takeRecords`, read through the layout of its first slot and of its records. -/
theorem takeEvents : Obligations.TakeEvents := by
  refine ⟨by decide, fun f s count h number => ⟨exec_takeEvents_refused h number, fun low high sound room => ?_⟩⟩
  have fits : 1 + (takeRecords count s).payload.length ≤ replyRoom f := by rw [takeRecords_length]; omega
  obtain ⟨removed, rest, overflow⟩ := takeRecords_head high sound low
  refine ⟨(takeRecords count s).payload, exec_takeEvents_taken h number low high fits, takeRecords_length, removed, rest,
    overflow, fun k e waits taken => ?_⟩
  have slot {i : Nat} := takeRecords_record (i := i) waits taken
  rw [slot (i := 0) (by decide), slot (i := 1) (by decide), slot (i := 2) (by decide), slot (i := 3) (by decide)]
  obtain ⟨present, kind, number⟩ := eventSlots_unit e
  refine ⟨eventSlots_kind e, eventSlots_stand_present e, fun n stand => ?_, ?_, fun g unit => ?_, fun g unit => ?_,
    eventSlots_detail_present e, eventSlots_cycle e, eventSlots_time e, eventSlots_detail e⟩
  · rw [eventSlots_stand, stand]; rfl
  · exact present.trans (unitItem_present e.unit)
  · obtain ⟨clear, named⟩ := unitItem_group g
    exact ⟨kind.trans (unit ▸ clear), number.trans (unit ▸ named)⟩
  · obtain ⟨set, named⟩ := unitItem_gauge g
    exact ⟨kind.trans (unit ▸ set), number.trans (unit ▸ named)⟩

/-- Settles O24: the state after `clearAttention`, flag by flag. -/
theorem clearAttention : Obligations.ClearAttention := by
  intro f s h
  refine ⟨_, exec_clearAttention h, fun n => ?_, and_not_named .., and_not_named .., rfl⟩
  calc (Machine.clearAttention (slotAt f.slots 1) (slotAt f.slots 2) s).flagsOf n
    _ = clearNamed (slotAt f.slots 1) n.val (s.flagsOf n) := clearAttention_flagsOf ..
    _ = _ := by simp only [clearNamed, bitOf, and_not_named]

end Sys2Proof.Proofs
end

section
/-!
PROOFS. What any piece of work can do to the state, said once: a piece of a frame's work, a stand order or an owner's ring loss is a
chain of elementary changes (`Change`), each of which touches one part of the state and keeps that part's tables, or applies a load
held pending. Whatever these changes keep, every command keeps that does not load a table.
-/

namespace Sys2Proof.Machine

/-! ### The elementary changes -/

/-- The stand's table, its loaded condition and its pending load are as they were. -/
structure Stand.SameLoad (a b : Stand) : Prop where
  table : b.table = a.table
  loaded : b.loaded = a.loaded
  pendingLoad : b.pendingLoad = a.pendingLoad

/-- The gauge's table, its loaded condition and its pending load are as they were. -/
structure Gauge.SameLoad (a b : Gauge) : Prop where
  table : b.table = a.table
  loaded : b.loaded = a.loaded
  pendingLoad : b.pendingLoad = a.pendingLoad

/-- The group's table, its loaded condition and its pending load are as they were; the remaining copies it holds are those it held, or
at most 255 (R133, R187). -/
structure Group.SameLoad (a b : Group) : Prop where
  table : b.table = a.table
  loaded : b.loaded = a.loaded
  pendingLoad : b.pendingLoad = a.pendingLoad
  copies : ∀ c, b.monitor.held = some c → a.monitor.held = some c ∨ c ≤ 255

/-- R164: what a piece of work may do to the record of the frame's work: pieces and contents are taken off it, a field becomes accepted
where the frame brought its slots, and no judgement is dropped. -/
structure FrameWork.Onward (a b : FrameWork) : Prop where
  due : ∀ w ∈ b.due, w ∈ a.due
  judges : ∀ x, .judge x ∈ a.due → .judge x ∈ b.due
  handed : ∀ p ∈ b.handed, p ∈ a.handed
  fresh : ∀ x ∈ b.fresh, x ∈ a.fresh ∨ ∃ ws, (x, some ws) ∈ a.handed
  recovery : b.recovery = a.recovery
  limits : b.limits = a.limits

/-- One elementary change of the state. -/
inductive Change : State → State → Prop
  | onStand (s : State) (n : StandNo) (f : Stand → Stand) (h : (s.stand n).SameLoad (f (s.stand n))) : Change s (s.onStand n f)
  | onGroup (s : State) (g : GroupNo) (f : Group → Group) (h : (s.group g).SameLoad (f (s.group g))) : Change s (s.onGroup g f)
  | onGauge (s : State) (g : GaugeNo) (f : Gauge → Gauge) (h : (s.gauge g).SameLoad (f (s.gauge g))) : Change s (s.onGauge g f)
  | onFrame (s : State) (f : FrameWork → FrameWork) (h : s.frame.Onward (f s.frame)) : Change s (s.onFrame f)
  | windows (s : State) (ws : List (Nat × Nat)) : Change s { s with windows := ws }
  | event (s : State) (k : EventKind) (a : Option StandNo) (b : Option EventUnit) (d : Option Nat) :
      Change s (s.takeEvent k a b d)
  | flags (s : State) (n : StandNo) (x : StandFlags) : Change s (s.putFlags n x)
  | standLoad (s : State) (n : StandNo) : Change s (releaseStandLoad n s)
  | gaugeLoad (s : State) (g : GaugeNo) : Change s (releaseGaugeLoad g s)
  | groupLoad (s : State) (g : GroupNo) : Change s (releaseGroupLoad g s)
  | pathLoad (s : State) (n : StandNo) : Change s (releasePathLoad n s)

/-- A chain of elementary changes. -/
abbrev Changes : State → State → Prop := Relation.ReflTransGen Change

theorem FrameWork.Onward.refl (a : FrameWork) : a.Onward a :=
  ⟨fun _ h => h, fun _ h => h, fun _ h => h, fun _ h => .inl h, rfl, rfl⟩

theorem FrameWork.Onward.trans {a b c : FrameWork} (h : a.Onward b) (k : b.Onward c) : a.Onward c where
  due w m := h.due w (k.due w m)
  judges x m := k.judges x (h.judges x m)
  handed p m := h.handed p (k.handed p m)
  fresh x m := (k.fresh x m).elim (h.fresh x) fun ⟨ws, m⟩ => .inr ⟨ws, h.handed _ m⟩
  recovery := k.recovery.trans h.recovery
  limits := k.limits.trans h.limits

/-- R73, R74: learning a mark keeps the stand's table. -/
theorem Stand.sameLoad_learnMark (st : Stand) (v : StandSample) : st.SameLoad (st.learnMark v) := by
  unfold Stand.learnMark
  split
  · split
    · exact ⟨rfl, rfl, rfl⟩
    · simp only
      split
      · exact ⟨rfl, rfl, rfl⟩
      · simp only [Stand.judgeLatch]
        split <;> split <;> exact ⟨rfl, rfl, rfl⟩
  · exact ⟨rfl, rfl, rfl⟩

/-- R187: the remaining copies that a folder field shows are a byte. -/
theorem readFolderSample_le (ws : List Word) : readFolderSample ws ≤ 255 :=
  Nat.le_of_lt_succ ((slotAt ws 1).extractLsb' 0 8).isLt

/-- R161: a sample accepted does not touch the record of the frame's work. -/
theorem acceptField_frame (f : InputField) (ws : List Word) (b : Bool) (k : EventKind) (s : State) :
    (acceptField f ws (if b then fieldEvent k f s else s)).frame = s.frame := by
  cases f <;> cases b <;> rfl

/-- R161: a field taken reads nothing of the record of the frame's work. -/
theorem takeField_onFrame (f : InputField) (ws : List Word) (k : FrameWork → FrameWork) (s : State) :
    takeField f ws (s.onFrame k) =
      (acceptField f ws (if s.isStale f then fieldEvent .samplesFresh f s else s)).onFrame
        fun w => { k w with fresh := (k w).fresh ++ [f] } := by
  have e : (s.onFrame k).isStale f = s.isStale f := by cases f <;> rfl
  unfold takeField
  rw [e]
  cases s.isStale f <;> cases f <;> rfl

namespace Changes

/-! ### Chains, change by change -/

section

variable {s t : State} (h : Changes s t)

theorem none (s : State) : Changes s s := .refl

include h

theorem onStand (n : StandNo) (f : Stand → Stand) (k : (t.stand n).SameLoad (f (t.stand n)) := by exact ⟨rfl, rfl, rfl⟩) :
    Changes s (t.onStand n f) := h.tail (.onStand t n f k)

theorem onGroup (g : GroupNo) (f : Group → Group)
    (k : (t.group g).SameLoad (f (t.group g)) := by exact ⟨rfl, rfl, rfl, fun _ => Or.inl⟩) : Changes s (t.onGroup g f) :=
  h.tail (.onGroup t g f k)

theorem onGauge (g : GaugeNo) (f : Gauge → Gauge) (k : (t.gauge g).SameLoad (f (t.gauge g)) := by exact ⟨rfl, rfl, rfl⟩) :
    Changes s (t.onGauge g f) := h.tail (.onGauge t g f k)

theorem onFrame (f : FrameWork → FrameWork) (k : t.frame.Onward (f t.frame)) : Changes s (t.onFrame f) :=
  h.tail (.onFrame t f k)

theorem windows (ws : List (Nat × Nat)) : Changes s { t with windows := ws } := h.tail (.windows t ws)

theorem event (k : EventKind) (a : Option StandNo) (b : Option EventUnit) (d : Option Nat) : Changes s (t.takeEvent k a b d) :=
  h.tail (.event t k a b d)

theorem flags (n : StandNo) (x : StandFlags) : Changes s (t.putFlags n x) := h.tail (.flags t n x)

theorem raiseFlag (n : StandNo) (k : StandFlag) : Changes s (t.raiseFlag n k) := by
  rw [State.raiseFlag_eq]
  split
  · exact h.flags n _
  · exact h

theorem dropGrant (g : GroupNo) : Changes s (t.dropDue (.grant g)) :=
  h.onFrame _ ⟨fun _ m => List.mem_of_mem_filter m, fun _ m => List.mem_filter.2 ⟨m, by simp⟩, fun _ m => m, fun _ m => .inl m, rfl, rfl⟩

theorem settleStand (n : StandNo) : Changes s (settleStand n t) := by
  unfold Machine.settleStand
  split
  · exact h
  · exact h.tail (.standLoad t n)

theorem settleGauge (g : GaugeNo) : Changes s (settleGauge g t) := by
  unfold Machine.settleGauge
  split
  · exact h.tail (.gaugeLoad t g)
  · exact h

theorem settleGroup (g : GroupNo) : Changes s (settleGroup g t) := by
  unfold Machine.settleGroup
  split
  · exact h.tail (.groupLoad t g)
  · exact h

theorem settlePath (n : StandNo) : Changes s (settlePath n t) := by
  unfold Machine.settlePath
  split
  · exact h
  · exact h.tail (.pathLoad t n)

/-! ### The Group Lock Unit -/

theorem withdrawWait (n : StandNo) : Changes s (withdrawWait n t) := (h.onGroup (t.groupOf n) _).onStand n _

theorem releaseLock (g : GroupNo) (n : StandNo) : Changes s (releaseLock g n t) := (h.onGroup g _).event ..

theorem giveBackLock (n : StandNo) : Changes s (giveBackLock n t) := by
  unfold Machine.giveBackLock
  split
  · exact h.releaseLock ..
  · exact h

theorem stopNewReel (n : StandNo) : Changes s (stopNewReel n t) := h.onStand n _

theorem enterAccelerating (n : StandNo) : Changes s (enterAccelerating n t) := h.onStand n _

theorem enterWaiting (n : StandNo) (urgent : Bool) : Changes s (enterWaiting n urgent t) := by
  rw [enterWaiting_eq]
  exact (h.onStand n _).onGroup _ _

theorem startForced (n : StandNo) : Changes s (startForced n t) :=
  ((h.onGroup (t.groupOf n) _).onStand n _).enterAccelerating n

theorem considerGrant (g : GroupNo) : Changes s (considerGrant g t) := by
  unfold Machine.considerGrant
  split
  · exact (((h.onGroup g _).event ..).onStand _ _).enterAccelerating _
  · exact h

theorem settleReleased (g : GroupNo) : Changes s (settleReleased g t) := by
  unfold Machine.settleReleased
  split
  · exact ((h.dropGrant g).considerGrant g).settleGroup g
  · exact h.settleGroup g

/-! ### The Gauge Scheduler -/

theorem cancelMeasure (g : GaugeNo) : Changes s (cancelMeasure g t) := h.onGauge g _

theorem leaveGauge (n : StandNo) : Changes s (leaveGauge n t) := by
  unfold Machine.leaveGauge
  split
  · split
    · exact h.cancelMeasure _
    · exact h.onGauge _ _
  · exact h

theorem startMeasure (g : GaugeNo) : Changes s (startMeasure g t) := by
  refine h.onGauge g _ ?_
  split <;> exact ⟨rfl, rfl, rfl⟩

theorem becomeIdle (g : GaugeNo) : Changes s (becomeIdle g t) := (h.onGauge g _).settleGauge g

theorem judgeResult (g : GaugeNo) (n : StandNo) (v : GaugeSample) : Changes s (judgeResult g n v t) := by
  unfold Machine.judgeResult
  split
  · exact (((h.onStand n _).event ..).raiseFlag n _).settleStand n
  · exact ((h.onStand n _).event ..).settleStand n

theorem timeoutMeasure (g : GaugeNo) (n : StandNo) : Changes s (timeoutMeasure g n t) :=
  (((h.event ..).onStand n _).settleStand n).becomeIdle g

theorem timeoutCancel (g : GaugeNo) : Changes s (timeoutCancel g t) := ((h.onGauge g _).event ..).settleGauge g

theorem gaugeResultWork (g : GaugeNo) : Changes s (gaugeResultWork g t) := by
  unfold Machine.gaugeResultWork
  split
  · split
    · split
      · exact (h.judgeResult ..).becomeIdle g
      · exact h
    · split
      · exact h
      · exact h.becomeIdle g
    · exact h
  · exact h

theorem gaugeStartWork (g : GaugeNo) : Changes s (gaugeStartWork g t) := by
  unfold Machine.gaugeStartWork
  split
  · split
    · exact h.startMeasure g
    · exact h
  · exact h

theorem gaugeDeadlineWork (g : GaugeNo) : Changes s (gaugeDeadlineWork g t) := by
  unfold Machine.gaugeDeadlineWork
  split
  · split
    · exact h.timeoutMeasure ..
    · exact h
  · split
    · exact h.timeoutCancel g
    · exact h
  · exact h

theorem gaugeRingLoss (g : GaugeNo) : Changes s (gaugeRingLoss g t) := by
  unfold Machine.gaugeRingLoss
  split
  · exact h.timeoutMeasure ..
  · exact h

/-! ### The Splice Tracker -/

theorem onEntry (g : GroupNo) (n : StandNo) (f : Entry → Entry) : Changes s (onEntry g n f t) := h.onGroup g _

theorem appendEntry (n : StandNo) (contact length : BitVec 32) : Changes s (appendEntry n contact length t) := by
  unfold Machine.appendEntry
  exact h.onGroup _ _

theorem prepareReject (g : GroupNo) (copies : Nat) : Changes s (prepareReject g copies t) := by
  refine h.onGroup g _ ?_
  split <;> exact ⟨rfl, rfl, rfl, fun _ => Or.inl⟩

theorem issueReject (g : GroupNo) (n : StandNo) : Changes s (issueReject g n t) :=
  ((h.onEntry g n _).event ..).prepareReject g _

theorem removed (g : GroupNo) (n : StandNo) (holds : Bool) :
    Changes s (Machine.settleReleased g (Machine.settlePath n (if holds then Machine.releaseLock g n t else t))) := by
  refine (settlePath ?_ n).settleReleased g
  split
  · exact h.releaseLock ..
  · exact h

theorem removeEntry (g : GroupNo) (n : StandNo) (holds : Bool) : Changes s (removeEntry g n holds t) := (h.onGroup g _).removed ..

theorem removeMissed (g : GroupNo) (n : StandNo) (holds : Bool) : Changes s (removeMissed g n holds t) :=
  ((h.onGroup g _).event ..).removed ..

theorem recoverWork (n : StandNo) : Changes s (recoverWork n t) := by
  unfold Machine.recoverWork
  split
  · split
    · exact h.removeMissed ..
    · exact h
  · exact h

theorem rejectWork (n : StandNo) : Changes s (rejectWork n t) := by
  unfold Machine.rejectWork
  split
  · split
    · exact h.issueReject ..
    · exact h
  · exact h

theorem clearWork (n : StandNo) : Changes s (clearWork n t) := by
  unfold Machine.clearWork
  split
  · split
    · exact h.removeEntry ..
    · exact h
  · exact h

omit h in
theorem passHolds (g : GroupNo) (n : StandNo) (count : BitVec 32) (fuel : Nat) {s t : State} (h : Changes s t) :
    Changes s (passHolds g n count fuel t) := by
  induction fuel generalizing t with
  | zero => exact h
  | succ fuel ih =>
    unfold Machine.passHolds
    split
    · simp only
      split
      · exact ih ((h.windows _).onEntry ..)
      · exact h
    · exact h

theorem holdsWork (n : StandNo) : Changes s (holdsWork n t) := by
  unfold Machine.holdsWork
  split
  · exact passHolds _ _ _ _ h
  · exact h

/-! ### The stand sequencer -/

theorem enterFault (n : StandNo) (c : FaultCode) : Changes s (enterFault n c t) :=
  ((((((h.onStand n _).event ..).raiseFlag n _).giveBackLock n).onStand n _).settleStand n).settleReleased _

theorem trackStand (n : StandNo) (v : StandSample) : Changes s (trackStand n v t) := h.onStand n _

theorem referTo (n : StandNo) (v : StandSample) : Changes s (referTo n v t) := h.onStand n _

theorem reportReelLow (n : StandNo) : Changes s (reportReelLow n t) := by
  unfold Machine.reportReelLow
  split
  · exact (h.event ..).onStand n _
  · exact h

theorem loseWeb (n : StandNo) : Changes s (loseWeb n t) := by
  refine (((?_ : Changes s _).onStand n _).event ..).settleStand n
  split
  · exact h.leaveGauge n
  · exact h.withdrawWait n
  · exact h

theorem watch (n : StandNo) (v : StandSample) : Changes s (handleSample.watch n v t) := by
  unfold handleSample.watch
  simp only
  split
  · exact (h.reportReelLow n).loseWeb n
  · exact h.reportReelLow n

theorem markForced (n : StandNo) : Changes s (markForced n t) := by
  unfold Machine.markForced
  split
  · exact (h.onStand n _).event ..
  · exact h

theorem tryForced (n : StandNo) : Changes s (tryForced n t) := by
  unfold Machine.tryForced
  split
  · exact h.startForced n
  · exact h

theorem abortForSpeed (n : StandNo) : Changes s (abortForSpeed n t) :=
  (((((h.giveBackLock n).stopNewReel n).onStand n _).event ..).settleStand n).settleReleased _

theorem enterAdvance (n : StandNo) : Changes s (enterAdvance n t) := h.onStand n _

theorem accelerate (n : StandNo) (v : StandSample) : Changes s (accelerate n v t) := by
  have learned : Changes s ((testMatch n v (Machine.referTo n v t)).onStand n fun st => st.learnMark v) :=
    ((h.referTo n v).onStand n _).onStand n _ (Stand.sameLoad_learnMark _ v)
  unfold Machine.accelerate
  simp only
  split
  · exact learned.enterFault n _
  · split
    · exact learned.enterAdvance n
    · exact learned

theorem acceleratingSample (n : StandNo) (v : StandSample) : Changes s (acceleratingSample n v t) := by
  unfold Machine.acceleratingSample
  split
  · exact h.enterFault n _
  · split
    · exact h.enterFault n _
    · split
      · exact h.abortForSpeed n
      · exact h.accelerate n v

theorem advanceSample (n : StandNo) (v : StandSample) : Changes s (advanceSample n v t) := by
  unfold Machine.advanceSample
  split
  · exact h.enterFault n _
  · split
    · split
      · exact h.onStand n _
      · exact h
    · exact h

theorem brushSample (n : StandNo) (v : StandSample) : Changes s (brushSample n v t) := by
  unfold Machine.brushSample
  split
  · exact h.enterFault n _
  · split
    · split
      · split
        · unfold confirmPaste enterCut
          exact (h.appendEntry n _ _).onStand n _
        · exact h
      · exact h
    · exact h

theorem cutSample (n : StandNo) (v : StandSample) : Changes s (cutSample n v t) := by
  unfold Machine.cutSample
  split
  · exact h.enterFault n _
  · split
    · split
      · exact (((h.onStand n _).event ..).raiseFlag n _).settleStand n
      · exact h
    · exact h

theorem handleSample (n : StandNo) (v : StandSample) : Changes s (handleSample n v t) := by
  have tracked := h.trackStand n v
  unfold Machine.handleSample
  split
  · exact h
  · exact h
  · exact h
  · exact tracked.watch n v
  · exact tracked.watch n v
  · exact tracked.watch n v
  · simp only
    split
    · exact tracked.loseWeb n
    · split
      · exact tracked.enterWaiting n _
      · exact tracked
  · simp only
    split
    · exact tracked.loseWeb n
    · exact (tracked.markForced n).tryForced n
  · exact tracked.acceleratingSample n v
  · exact (tracked.referTo n v).advanceSample n v
  · exact (tracked.referTo n v).brushSample n v
  · exact (tracked.referTo n v).cutSample n v

theorem sampleWork (n : StandNo) : Changes s (sampleWork n t) := by
  unfold Machine.sampleWork
  split
  · exact h.handleSample n _
  · exact h

theorem deadlineWork (n : StandNo) : Changes s (deadlineWork n t) := by
  have past (c : FaultCode) (b : Bool) : Changes s (if b = true then Machine.enterFault n c t else t) := by
    split
    · exact h.enterFault n c
    · exact h
  unfold Machine.deadlineWork
  split
  · exact past ..
  · exact past ..
  · exact past ..
  · exact past ..
  · exact h

theorem standRingLoss (n : StandNo) : Changes s (standRingLoss n t) := by
  unfold Machine.standRingLoss
  split
  · exact ((h.withdrawWait n).onStand n _).settleStand n
  · exact h.enterFault n _
  · exact h.enterFault n _
  · exact h.enterFault n _
  · exact h.enterFault n _
  · exact h

/-! ### The Sample Monitor -/

theorem acceptField (f : InputField) (ws : List Word) : Changes s (acceptField f ws t) := by
  unfold Machine.acceptField
  cases f with
  | stand n => exact h.onStand n _
  | gauge g => exact h.onGauge g _
  | folder g =>
    refine h.onGroup g _ ⟨rfl, rfl, rfl, fun c e => .inr ?_⟩
    obtain rfl : readFolderSample ws = c := Option.some.inj e
    exact readFolderSample_le ws

theorem repeatField (f : InputField) : Changes s (repeatField f t) := by
  unfold Machine.repeatField
  cases f with
  | stand n => exact h.onStand n _
  | gauge g => exact h.onGauge g _
  | folder g => exact h.onGroup g _

theorem fieldEvent (k : EventKind) (f : InputField) : Changes s (fieldEvent k f t) := by
  cases f <;> exact h.event ..

theorem forgetField (f : InputField) : Changes s (forgetField f t) := by
  unfold Machine.forgetField
  cases f with
  | stand n => exact h.onStand n _
  | gauge g => exact h.onGauge g _
  | folder g => exact h.onGroup g _ ⟨rfl, rfl, rfl, fun _ e => nomatch e⟩

theorem setStale (f : InputField) : Changes s (setStale f t) := by
  unfold Machine.setStale
  cases f with
  | stand n => exact h.onStand n _
  | gauge g => exact h.onGauge g _
  | folder g => exact h.onGroup g _

theorem staleWork (f : InputField) : Changes s (staleWork f t) := by
  unfold Machine.staleWork becomeStale
  split
  · cases f with
    | stand n => exact ((h.setStale _).fieldEvent ..).raiseFlag n _
    | gauge g => exact (h.setStale _).fieldEvent ..
    | folder g => exact (h.setStale _).fieldEvent ..
  · exact h

/-- R161: a judgement takes the field's contents off the record of the frame's work, and a field accepted is one that lies within the
frame. -/
theorem judgeField (f : InputField) (brought : Option (List Word))
    (mem : ∀ ws, brought = some ws → (f, some ws) ∈ t.frame.handed) :
    Changes s (judgeField f brought (t.onFrame fun w => { w with handed := w.handed.filter (·.1 != f) })) := by
  have less : t.frame.Onward { t.frame with handed := t.frame.handed.filter (·.1 != f) } :=
    { FrameWork.Onward.refl t.frame with handed := fun _ m => List.mem_of_mem_filter m }
  have kept := (h.onFrame (fun w => { w with handed := w.handed.filter (·.1 != f) }) less).repeatField f
  unfold Machine.judgeField
  split
  · next ws =>
    split
    · have taken : Changes s (Machine.acceptField f ws (if t.isStale f then Machine.fieldEvent .samplesFresh f t else t)) := by
        refine acceptField ?_ f ws
        split
        · exact h.fieldEvent ..
        · exact h
      rw [takeField_onFrame]
      refine taken.onFrame _ ?_
      rw [acceptField_frame]
      refine { less with fresh := fun x m => ?_ }
      rcases List.mem_append.1 m with m | m
      · exact .inl m
      · obtain rfl := List.mem_singleton.1 m
        exact .inr ⟨ws, mem ws rfl⟩
    · exact kept
  · exact kept

theorem judgeWork (f : InputField) : Changes s (judgeWork f t) := by
  unfold Machine.judgeWork State.broughtFor
  split
  · next b e =>
    obtain ⟨p, found, rfl⟩ := Option.map_eq_some_iff.1 e
    obtain rfl : p.1 = f := by simpa using List.find?_some found
    have judged := h.judgeField p.1 p.2 fun ws e => e ▸ List.mem_of_find?_eq_some found
    simp only
    split
    · exact judged.forgetField _
    · exact judged
  · exact h

end

/-! ### The pieces of a frame's work, the owners of ring loss -/

/-- R164: a piece of a frame's work is a chain of elementary changes. -/
theorem perform (w : Work) (s : State) : Changes s (perform w s) := by
  have sampled {f : State → State} (b : Bool) (h : Changes s (f s)) : Changes s (if b = true then f s else s) := by
    split
    · exact h
    · exact .refl
  have h := none s
  cases w with
  | judge f => exact h.judgeWork f
  | stale f => exact h.staleWork f
  | recover n => exact sampled _ (h.recoverWork n)
  | holds n => exact sampled _ (h.holdsWork n)
  | reject n => exact sampled _ (h.rejectWork n)
  | clear n => exact sampled _ (h.clearWork n)
  | sample n => exact sampled _ (h.sampleWork n)
  | deadline n => exact h.deadlineWork n
  | result g => exact sampled _ (h.gaugeResultWork g)
  | start g => exact sampled _ (h.gaugeStartWork g)
  | timeout g => exact h.gaugeDeadlineWork g
  | grant g => exact h.considerGrant g

/-- R166: an owner's part at ring loss is a chain of elementary changes. -/
theorem loseAt (s : State) (o : LossOwner) : Changes s (loseAt s o) := by
  cases o with
  | stand n => exact (none s).standRingLoss n
  | gauge g => exact (none s).gaugeRingLoss g

end Changes

end Sys2Proof.Machine
end

section
/-!
PROOFS. What any command can do to the state, said once: a command that moves no RESET is a chain of operations (`Operation`), each with
the condition under which its rule takes it. What every operation keeps, every command keeps.
-/

namespace Sys2Proof.Machine

/-! ### The operations -/

/-- Only the port, the record of the frame's work, the hold windows and the frame at OUT differ. -/
structure SameBlocks (s t : State) : Prop where
  pending : t.pending = s.pending
  resetLow : t.resetLow = s.resetLow
  nodeAddress : t.nodeAddress = s.nodeAddress
  stands : t.stands = s.stands
  groups : t.groups = s.groups
  gauges : t.gauges = s.gauges
  paths : t.paths = s.paths
  responder : t.responder = s.responder

/-- A load that its owner's tests do not refuse: applied at once, or kept pending while its table's condition holds it. -/
inductive Loading : State → State → Prop
  | part (s : State) (l : Load) (h : partLoadRefusal l s = none) : Loading s (applyPartLoad l s)
  | stand (s : State) (n : StandNo) (l : Load) (h : standLoadRefusal n l s = none) (free : (s.stand n).state.defers = false) :
      Loading s (applyStandLoad n l s)
  | standHeld (s : State) (n : StandNo) (l : Load) (h : standLoadRefusal n l s = none) (held : (s.stand n).state.defers = true) :
      Loading s (s.onStand n fun st => { st with pendingLoad := some l })
  | path (s : State) (n : StandNo) (l : Load) (h : pathLoadRefusal n l s = none) (free : s.hasEntry n = false) :
      Loading s (applyPathLoad n l s)
  | pathHeld (s : State) (n : StandNo) (l : Load) (h : pathLoadRefusal n l s = none) (held : s.hasEntry n = true) :
      Loading s (s.onPath n fun p => { p with pendingLoad := some l })
  | group (s : State) (g : GroupNo) (l : Load) (h : groupLoadRefusal g l s = none) :
      Loading s (applyGroupLoad g l s)
  | groupHeld (s : State) (g : GroupNo) (l : Load) (h : groupLoadRefusal g l s = none)
      (held : (s.group g).holder ≠ .none ∨ (s.group g).tracker ≠ []) :
      Loading s (s.onGroup g fun u => { u with pendingLoad := some l })
  | gauge (s : State) (g : GaugeNo) (l : Load) (h : gaugeLoadRefusal g l s = none) : Loading s (applyGaugeLoad g l s)
  | gaugeHeld (s : State) (g : GaugeNo) (l : Load) (h : gaugeLoadRefusal g l s = none) (held : (s.gauge g).state ≠ .idle) :
      Loading s (s.onGauge g fun u => { u with pendingLoad := some l })

/-- A stand order that the stand's state admits, with its effects. -/
inductive Ordering : State → State → Prop
  | enable (s : State) (n : StandNo) (h : (s.stand n).state = .offline) (tables : s.tablesReady n) : Ordering s (enableStand n s)
  | disable (s : State) (n : StandNo) (h : (s.stand n).state ≠ .offline) (p : (s.stand n).state.isPasting = false) :
      Ordering s (disableStand n s)
  | park (s : State) (n : StandNo) (h : (s.stand n).state.feedsIdle) :
      Ordering s (s.onStand n fun st => { st with state := .parked })
  | resume (s : State) (n : StandNo) (h : (s.stand n).state = .parked) (web : (s.stand n).webHeld) :
      Ordering s (s.onStand n Stand.resumed)
  | mount (s : State) (n : StandNo) (m : MountValues) (h : (s.stand n).state.feedsIdle) : Ordering s (mountReel n m s)
  | unmount (s : State) (n : StandNo) (h : (s.stand n).state.admitsUnmount) : Ordering s (unmountReel n s)
  | range (s : State) (n : StandNo) (g : GaugeNo) (h : (s.stand n).state = .loaded ∨ (s.stand n).state = .ready)
      (e : gaugeEntry (s.stand n).table = some g) : Ordering s (rangeReel n g s)
  | auto (s : State) (n : StandNo) (on : Bool) : Ordering s (s.onStand n fun st => { st with auto := on })
  | spliceNow (s : State) (n : StandNo) (h : (s.stand n).state = .ready) : Ordering s (enterWaiting n true s)
  | abortWait (s : State) (n : StandNo) (h : (s.stand n).state = .waiting) : Ordering s (abortWait n s)
  | abortSplice (s : State) (n : StandNo) (h : (s.stand n).state = .accelerating ∨ (s.stand n).state = .pasting .advance) :
      Ordering s (abortSplice n s)
  | clearFault (s : State) (n : StandNo) (h : (s.stand n).state = .fault) : Ordering s (s.onStand n Stand.faultCleared)

/-- One operation of a command; with `accepting` it may be an acceptance, which alone hands over input fields for their judgement. -/
inductive Operation (accepting : Bool) : State → State → Prop
  | outside (s t : State) (h : SameBlocks s t) (handed : accepting = false → t.frame.handed = s.frame.handed) : Operation accepting s t
  | perform (s : State) (w : Work) : Operation accepting s (perform w s)
  | lose (s : State) (o : LossOwner) : Operation accepting s (loseAt s o)
  | event (s : State) (k : EventKind) (a : Option StandNo) (b : Option EventUnit) (d : Option Nat) :
      Operation accepting s (s.takeEvent k a b d)
  | responder (s : State) (f : Responder → Responder) (table : (f s.responder).table = s.responder.table)
      (events : (f s.responder).events.length ≤ s.responder.events.length) : Operation accepting s (s.onResponder f)
  | counter (s : State) (o : OutputField) : Operation accepting s (advanceCounter o s)
  | newFrame (s : State) (g : GroupNo) : Operation accepting s (s.onGroup g fun u => { u with orderPrepared := false })
  | hold (s : State) (g : GroupNo) (held : Bool) : Operation accepting s (setHold held g s)
  | order {s t : State} (h : Ordering s t) : Operation accepting s t
  | load {s t : State} (h : Loading s t) : Operation accepting s t
  | settleStand (s : State) (n : StandNo) : Operation accepting s (settleStand n s)
  | settleGauge (s : State) (g : GaugeNo) : Operation accepting s (settleGauge g s)
  | settleGroup (s : State) (g : GroupNo) : Operation accepting s (settleGroup g s)
  | settlePath (s : State) (n : StandNo) : Operation accepting s (settlePath n s)
  | restart (s : State) (h : ∀ n, (s.stand n).state.isPasting = false) : Operation accepting s (restartPart s)

/-- A chain of operations. -/
abbrev Operations (accepting : Bool) : State → State → Prop := Relation.ReflTransGen (Operation accepting)

/-- R182: no stand is in PASTING exactly where none of the eight is. -/
theorem State.anyPasting_iff (s : State) : s.anyPasting = true ↔ ∃ n, (s.stand n).state.isPasting = true := by
  simp only [State.anyPasting, List.any_eq_true]
  constructor
  · rintro ⟨st, m, h⟩
    obtain ⟨i, hi, rfl⟩ := List.mem_iff_getElem.1 m
    exact ⟨⟨i, by simpa using hi⟩, by simpa [State.stand] using h⟩
  · rintro ⟨n, h⟩
    exact ⟨s.stand n, by simp [State.stand], h⟩

/-! ### The acceptance of a cycle frame, step by step (R147) -/

/-- R147 steps 1 to 6: the state that the frame's outputs are written from, but for the command freshness counters. -/
def announced (f : Frame) (s : State) : State :=
  testShort (slotCount f) ((returnRing (takeHeader f s)).onPort fun p => { p with timeBack := false })

/-- R147 step 7: the state that the frame's outputs are written from. -/
def outputState (f : Frame) (s : State) : State := advanceOutputs (slotCount f) (announced f s)

/-- R134: the state after step 7, with no reject order prepared at this frame. -/
def workState (f : Frame) (s : State) : State :=
  (List.finRange 4).foldl (fun u g => u.onGroup g fun x => { x with orderPrepared := false }) (outputState f s)

/-- R147: what an acceptance leaves: the blocks of `workState`, the outputs written from `outputState`, and the frame's work. -/
theorem acceptFrame_eq (f : Frame) (s : State) :
    acceptFrame f s =
      { workState f s with
        windows := []
        out := some { f with slots := (outputState f s).writeOutputs (frameTime f) f.slots }
        frame :=
          { handed := (workState f s).handed f.slots, fresh := [], moved := [], recovery := s.port.ring == .lost
            limits := Vector.ofFn fun n => staleLimit ((workState f s).stand n).table, grantFirst := []
            due := (workState f s).frameDue } } := rfl

/-! ### Orders and the restart, as elementary changes -/

theorem Changes.advanceCounter {s t : State} (h : Changes s t) (o : OutputField) : Changes s (advanceCounter o t) := by
  unfold Machine.advanceCounter
  cases o with
  | status => exact h
  | stand n => exact h.onStand n _
  | gauge g => exact h.onGauge g _
  | folder g => exact h.onGroup g _
  | hold _ => exact h

/-- R37: re-taking the baseline keeps the stand's table. -/
theorem Stand.sameLoad_retakeBaseline (st : Stand) : st.SameLoad st.retakeBaseline := by
  unfold Stand.retakeBaseline
  split <;> exact ⟨rfl, rfl, rfl⟩

/-- R13: RESUME keeps the stand's table. -/
theorem Stand.sameLoad_resumed (st : Stand) : st.SameLoad st.resumed := by
  obtain ⟨table, loaded, pendingLoad⟩ := st.sameLoad_retakeBaseline
  unfold Stand.resumed
  cases st.expiring with
  | none => exact ⟨rfl, rfl, rfl⟩
  | some r => exact ⟨table, loaded, pendingLoad⟩

/-- R20: CLEAR-FAULT keeps the stand's table. -/
theorem Stand.sameLoad_faultCleared (st : Stand) : st.SameLoad st.faultCleared := by
  obtain ⟨table, loaded, pendingLoad⟩ := st.sameLoad_retakeBaseline
  unfold Stand.faultCleared
  simp only
  split
  · exact ⟨rfl, rfl, rfl⟩
  · exact ⟨table, loaded, pendingLoad⟩

/-- R9: a stand order is a chain of elementary changes. -/
theorem Ordering.changes {s t : State} (h : Ordering s t) : Changes s t := by
  have k := Changes.none s
  cases h with
  | enable n _ _ => exact (k.onStand n _).flags n _
  | disable n _ _ =>
    refine Changes.settleGroup (Changes.settleStand (Changes.onStand ?_ n _) n) _
    split
    · exact k.leaveGauge n
    · exact k.withdrawWait n
    · exact (k.giveBackLock n).stopNewReel n
    · exact k
  | park n _ => exact k.onStand n _
  | resume n _ _ => exact k.onStand n _ (Stand.sameLoad_resumed _)
  | mount n m _ => exact k.onStand n _
  | unmount n _ =>
    refine Changes.settleStand (Changes.onStand ?_ n _) n
    split
    · exact k.leaveGauge n
    · exact k.withdrawWait n
    · exact k
  | range n g _ _ =>
    unfold rangeReel joinQueue
    exact (k.onStand n _).onGauge g _
  | auto n on => exact k.onStand n _
  | spliceNow n _ => exact k.enterWaiting n _
  | abortWait n _ => exact ((k.withdrawWait n).onStand n _).settleStand n
  | abortSplice n _ => exact ((((k.giveBackLock n).stopNewReel n).onStand n _).settleStand n).settleGroup _
  | clearFault n _ => exact k.onStand n _ (Stand.sameLoad_faultCleared _)

theorem Changes.foldl {α : Type} {f : State → α → State} (k : ∀ u a, Changes u (f u a)) (l : List α) {s t : State}
    (h : Changes s t) : Changes s (l.foldl f t) := by
  induction l generalizing t with
  | nil => exact h
  | cons a l ih => exact ih (h.trans (k t a))

theorem Changes.restartStand (s : State) (n : StandNo) : Changes s (restartStand s n) :=
  ((Changes.none s).onStand n _).tail (.standLoad _ n)

theorem Changes.restartGauge (s : State) (g : GaugeNo) : Changes s (restartGauge s g) := by
  have loaded := ((Changes.none s).onGauge g fun u => { u with queue := [] }).tail (.gaugeLoad _ g)
  unfold Machine.restartGauge
  simp only
  split
  · exact Changes.cancelMeasure loaded g
  · exact loaded

theorem Changes.restartGroup (s : State) (g : GroupNo) : Changes s (restartGroup s g) := by
  unfold Machine.restartGroup
  refine (Changes.onGroup ?_ g _).tail (.groupLoad _ g)
  split
  · exact (Changes.none s).event ..
  · exact .refl

/-- R182: the blocks' parts of the restart, before the Service Responder's. -/
def restartBlocks (s : State) : State :=
  (List.finRange 8).foldl restartPath ((List.finRange 4).foldl restartGroup ((List.finRange 4).foldl restartGauge
    ((List.finRange 8).foldl restartStand s)))

theorem restartPart_eq (s : State) :
    restartPart s = ({ restartBlocks s with windows := [] } : State).onResponder Responder.restarted := rfl

/-- R182: the blocks' parts of the restart are a chain of elementary changes. -/
theorem Changes.restartBlocks (s : State) : Changes s (restartBlocks s) :=
  foldl (fun u n => .single (.pathLoad u n)) _ <| foldl restartGroup _ <| foldl restartGauge _ <| foldl restartStand _ (.none s)

namespace Operations

variable {accepting : Bool}

section

variable {s t : State} (h : Operations accepting s t)

theorem none (s : State) : Operations accepting s s := .refl

include h

theorem outside {u : State} (k : SameBlocks t u) (handed : accepting = false → u.frame.handed = t.frame.handed := by exact fun _ => rfl) :
    Operations accepting s u := h.tail (.outside t u k handed)

theorem onPort (f : Port → Port) : Operations accepting s (t.onPort f) := h.outside ⟨rfl, rfl, rfl, rfl, rfl, rfl, rfl, rfl⟩

theorem onFrame (f : FrameWork → FrameWork) (handed : accepting = false → (f t.frame).handed = t.frame.handed := by exact fun _ => rfl) :
    Operations accepting s (t.onFrame f) := h.outside ⟨rfl, rfl, rfl, rfl, rfl, rfl, rfl, rfl⟩ handed

theorem emit (f : Frame) : Operations accepting s (emit f t) := h.outside ⟨rfl, rfl, rfl, rfl, rfl, rfl, rfl, rfl⟩

theorem event (k : EventKind) (a : Option StandNo) (b : Option EventUnit) (d : Option Nat) : Operations accepting s (t.takeEvent k a b d) :=
  h.tail (.event t k a b d)

theorem responder (f : Responder → Responder) (table : (f t.responder).table = t.responder.table)
    (events : (f t.responder).events.length ≤ t.responder.events.length) : Operations accepting s (t.onResponder f) :=
  h.tail (.responder t f table events)

omit h in
/-- A list of steps, each a chain of operations. -/
theorem foldl {α : Type} {f : State → α → State} (k : ∀ u a, Operations accepting u (f u a)) (l : List α) {t : State} (h : Operations accepting s t) :
    Operations accepting s (l.foldl f t) := by
  induction l generalizing t with
  | nil => exact h
  | cons a l ih => exact ih (h.trans (k t a))

/-! ### A frame's work (R164) -/

theorem takePiece (w : Work) : Operations accepting s (takePiece t w) := by
  unfold Machine.takePiece
  split
  · exact (h.onFrame _).tail (.perform _ w)
  · exact h

theorem takePieces (ws : List Work) : Operations accepting s (ws.foldl Machine.takePiece t) :=
  foldl (fun u w => (none u).takePiece w) ws h

theorem carryOutAll (ws : List Work) : Operations accepting s (carryOutAll ws t) :=
  foldl (fun u w => ((none u).takePieces _).takePiece w) ws h

theorem finishFrame : Operations accepting s (finishFrame t) := h.carryOutAll _

theorem comesAbout (w : Work) (came : State → State → Bool) : Operations accepting s (comesAbout w came t) := by
  unfold Machine.comesAbout
  split
  · simp only
    split
    · exact (h.takePieces _).takePiece w
    · exact h
  · exact h

/-! ### Cycle frames and ring loss (chapter 8) -/

theorem returnRing : Operations accepting s (returnRing t) := by
  unfold Machine.returnRing State.raiseRing
  split
  · have back := (h.onPort fun p => { p with ring := .up }).event .ringBack .none .none .none
    split
    · exact back.responder _ rfl le_rfl
    · exact back
  · exact h

theorem testShort (count : Nat) : Operations accepting s (testShort count t) := by
  unfold Machine.testShort
  split
  · exact h.onPort _
  · split
    · exact h
    · exact (h.onPort _).event ..

theorem advanceOutputs (count : Nat) : Operations accepting s (advanceOutputs count t) :=
  foldl (fun u (p : Placed OutputField) => (none u).tail (.counter u p.field)) _ (h.onPort _)

theorem takeHeader (f : Frame) : Operations accepting s (takeHeader f t) := by
  unfold Machine.takeHeader
  exact (h.onPort _).onPort _

omit h in
theorem acceptFrame (f : Frame) {s t : State} (h : Operations true s t) : Operations true s (acceptFrame f t) := by
  have announced : Operations true s (announced f t) :=
    ((h.takeHeader f).returnRing.onPort fun p => { p with timeBack := false }).testShort (slotCount f)
  have ready : Operations true s (workState f t) :=
    foldl (fun u g => (none u).tail (.newFrame u g)) _ (announced.advanceOutputs (slotCount f))
  have rest (u : State) (o : Option Frame) (w : FrameWork) : SameBlocks u { u with windows := [], out := o, frame := w } :=
    ⟨rfl, rfl, rfl, rfl, rfl, rfl, rfl, rfl⟩
  exact ready.outside (rest _ _ _) nofun

theorem refuseFrame (f : Frame) : Operations accepting s (refuseFrame f t) := by
  unfold Machine.refuseFrame
  simp only
  split
  · exact h.emit _
  · exact ((h.emit _).onPort _).event ..

theorem declareLoss (order : List LossOwner) : Operations accepting s (declareLoss order t) :=
  foldl (fun u o => (none u).tail (.lose u o)) _ ((h.onPort _).event ..)

/-! ### Requests (chapters 1 and 9) -/

/-- R168: what a request's rule does, the request's answer does. -/
theorem serve (f : Frame) {act : State → Answer} (k : ∀ u, Operations accepting u (act u).state) : Operations accepting s (serve f t act) := by
  unfold Machine.serve
  split
  · simp only
    split
    · exact h.finishFrame.emit _
    · exact emit (h.finishFrame.trans (k _)) _
  · exact h.emit _

end

/-- R169: what a request's rule does with every area, it does where the area's length is tested. -/
theorem withArea (f : Frame) (len : Nat) {k : List Word → Answer} {s : State} (h : ∀ ws, Operations accepting s (k ws).state) :
    Operations accepting s (withArea f len s k).state := by
  unfold Machine.withArea
  split
  · split
    · exact h _
    · exact none s
  · exact none s

/-- R9: what an order does at every stand, it does where the stand's number is tested. -/
theorem standOrder (f : Frame) (len : Nat) {act : List Word → StandNo → State → Answer}
    (h : ∀ ws n s, Operations accepting s (act ws n s).state) (s : State) : Operations accepting s (standOrder f len act s).state := by
  refine withArea f len fun ws => ?_
  split
  · exact h ..
  · exact none s

theorem loadRequest (f : Frame) {s : State} {act : Nat → Load → Answer} (h : ∀ i l, Operations accepting s (act i l).state) :
    Operations accepting s (loadRequest f s act).state := by
  unfold Machine.loadRequest
  split
  · split
    · exact h ..
    · exact none s
  · exact none s

/-- R44: a load that is not refused is applied at once or kept pending. -/
theorem settleLoad {refusal : Option ReplyStatus} {atOnce : Bool} {applied kept s : State}
    (now : refusal = Option.none → atOnce = true → Loading s applied) (later : refusal = Option.none → atOnce = false → Loading s kept) :
    Operations accepting s (settleLoad refusal atOnce applied kept s).state := by
  cases refusal with
  | some c => exact none s
  | none =>
    cases atOnce with
    | true => exact .single (.load (now rfl rfl))
    | false => exact .single (.load (later rfl rfl))

/-- An order taken by the stand's state. -/
theorem ordered {s t : State} (h : Ordering s t) : Operations accepting s (taken t).state := .single (.order h)

theorem orderEnable (n : StandNo) (s : State) : Operations accepting s (orderEnable n s).state := by
  unfold Machine.orderEnable
  split
  · next offline =>
    split
    · next tables => exact ordered (.enable s n offline tables)
    · exact none s
  · exact none s

theorem orderDisable (n : StandNo) (s : State) : Operations accepting s (orderDisable n s).state := by
  unfold Machine.orderDisable
  split
  · exact none s
  · exact none s
  · next offline pasting =>
    refine ordered (.disable s n offline ?_)
    cases e : (s.stand n).state <;> first | rfl | exact absurd e (pasting _)

theorem orderPark (n : StandNo) (s : State) : Operations accepting s (orderPark n s).state := by
  unfold Machine.orderPark
  split
  · next h => exact ordered (.park s n h)
  · exact none s

theorem orderResume (n : StandNo) (s : State) : Operations accepting s (orderResume n s).state := by
  unfold Machine.orderResume
  split
  · next h => exact ordered (.resume s n h.1 h.2)
  · exact none s

theorem orderMount (n : StandNo) (m : MountValues) (s : State) : Operations accepting s (orderMount n m s).state := by
  unfold Machine.orderMount
  split
  · next h =>
    split
    · exact ordered (.mount s n m h)
    · exact none s
  · exact none s

theorem orderUnmount (n : StandNo) (s : State) : Operations accepting s (orderUnmount n s).state := by
  unfold Machine.orderUnmount
  split
  · next h => exact ordered (.unmount s n h)
  · exact none s

theorem orderRange (n : StandNo) (s : State) : Operations accepting s (orderRange n s).state := by
  unfold Machine.orderRange
  split
  · next h =>
    split
    · next g e => exact ordered (.range s n g h e)
    · exact none s
  · exact none s

theorem orderAuto (on : Bool) (n : StandNo) (s : State) : Operations accepting s (orderAuto on n s).state := by
  unfold Machine.orderAuto
  split
  · exact none s
  · exact ordered (.auto s n on)

theorem orderSpliceNow (n : StandNo) (s : State) : Operations accepting s (orderSpliceNow n s).state := by
  unfold Machine.orderSpliceNow
  split
  · next h =>
    split
    · exact ordered (.spliceNow s n h)
    · exact none s
  · exact none s

theorem orderAbort (n : StandNo) (s : State) : Operations accepting s (orderAbort n s).state := by
  unfold Machine.orderAbort
  split
  · next h => exact ordered (.abortWait s n h)
  · next h => exact ordered (.abortSplice s n (.inl h))
  · next h => exact ordered (.abortSplice s n (.inr h))
  · exact none s
  · exact none s
  · exact none s

theorem orderClearFault (n : StandNo) (s : State) : Operations accepting s (orderClearFault n s).state := by
  unfold Machine.orderClearFault
  split
  · next h => exact ordered (.clearFault s n h)
  · exact none s

theorem groupOrder (f : Frame) (held : Bool) (s : State) : Operations accepting s (groupOrder f held s).state := by
  refine withArea f 2 fun ws => ?_
  split
  · exact .single (.hold s _ held)
  · exact none s

theorem takeRecords (count : Nat) (s : State) : Operations accepting s (takeRecords count s).state :=
  (none s).responder (fun r => { r with events := s.responder.events.drop count }) rfl (by simp)

theorem clearAttention (stands part : Word) (s : State) : Operations accepting s (taken (clearAttention stands part s)).state := by
  simp only [Machine.clearAttention, taken]
  exact (none s).responder _ rfl (Nat.le_refl _)

theorem readTable (kind inst first count : Nat) (s : State) : Operations accepting s (readTable kind inst first count s).state := by
  have table {k : Nat} (t : Vector Word k) (l p : Bool) : Operations accepting s (tableAnswer t l p first count s).state := by
    unfold tableAnswer
    split <;> exact none s
  unfold Machine.readTable
  split
  · split <;> [exact table ..; exact none s]
  · split <;> [exact table ..; exact none s]
  · split <;> [exact table ..; exact none s]
  · split <;> [exact table ..; exact none s]
  · split <;> [exact table ..; exact none s]
  · exact none s

theorem unknownAnswer (f : Frame) (s : State) : Operations accepting s (unknownAnswer f s).state := by
  unfold Machine.unknownAnswer
  split
  · split <;> exact none s
  · split <;> exact none s
  · split <;> exact none s
  · exact none s
  · exact none s

theorem loadTablePart (f : Frame) (s : State) : Operations accepting s (Machine.loadRequest f s fun inst l =>
    if inst = 0 then Machine.settleLoad (partLoadRefusal l s) true (applyPartLoad l s) s s else refuse .range s).state := by
  refine loadRequest f fun i l => ?_
  split
  · exact settleLoad (fun h _ => .part s l h) (fun _ h => nomatch h)
  · exact none s

theorem loadTableStand (f : Frame) (s : State) : Operations accepting s (Machine.loadRequest f s fun inst l =>
    match standOf inst with
    | some n =>
      Machine.settleLoad (standLoadRefusal n l s) (!(s.stand n).state.defers) (applyStandLoad n l s)
        (s.onStand n fun st => { st with pendingLoad := some l }) s
    | Option.none => refuse .range s).state := by
  refine loadRequest f fun i l => ?_
  split
  · next n _ =>
    exact settleLoad (fun h d => .stand s n l h (by simpa using d)) (fun h d => .standHeld s n l h (by simpa using d))
  · exact none s

theorem loadTablePath (f : Frame) (s : State) : Operations accepting s (Machine.loadRequest f s fun inst l =>
    match standOf inst with
    | some n =>
      Machine.settleLoad (pathLoadRefusal n l s) (!s.hasEntry n) (applyPathLoad n l s)
        (s.onPath n fun p => { p with pendingLoad := some l }) s
    | Option.none => refuse .range s).state := by
  refine loadRequest f fun i l => ?_
  split
  · next n _ =>
    exact settleLoad (fun h d => .path s n l h (by simpa using d)) (fun h d => .pathHeld s n l h (by simpa using d))
  · exact none s

theorem loadTableGroup (f : Frame) (s : State) : Operations accepting s (Machine.loadRequest f s fun inst l =>
    match groupOfNumber inst with
    | some g =>
      Machine.settleLoad (groupLoadRefusal g l s) ((s.group g).holder == .none && (s.group g).tracker.isEmpty)
        (applyGroupLoad g l s) (s.onGroup g fun u => { u with pendingLoad := some l }) s
    | Option.none => refuse .range s).state := by
  refine loadRequest f fun i l => ?_
  split
  · next g _ =>
    refine settleLoad (fun h _ => .group s g l h) (fun h d => .groupHeld s g l h ?_)
    rw [Bool.and_eq_false_iff] at d
    exact d.imp (by simp) (by simp)
  · exact none s

theorem loadTableGauge (f : Frame) (s : State) : Operations accepting s (Machine.loadRequest f s fun inst l =>
    match groupOfNumber inst with
    | some g =>
      Machine.settleLoad (gaugeLoadRefusal g l s) ((s.gauge g).state == .idle) (applyGaugeLoad g l s)
        (s.onGauge g fun u => { u with pendingLoad := some l }) s
    | Option.none => refuse .range s).state := by
  refine loadRequest f fun i l => ?_
  split
  · next g _ =>
    exact settleLoad (fun h _ => .gauge s g l h) (fun h d => .gaugeHeld s g l h (by simpa using d))
  · exact none s

theorem restartPart (f : Frame) (s : State) :
    Operations accepting s (Machine.withArea f 1 s fun _ => if s.anyPasting then refuse .state s else taken (Machine.restartPart s)).state := by
  refine withArea f 1 fun ws => ?_
  split
  · exact none s
  · next h =>
    refine .single (.restart s fun n => ?_)
    rw [State.anyPasting_iff] at h
    simpa using not_exists.1 h n

end Operations

/-! ### Every command -/

/-- A command that moves no RESET is a chain of operations; only a cycle frame's are those of an acceptance. -/
theorem exec_operations {accepting : Bool} (c : Instr) (s : State) (assert : c ≠ .resetAssert) (release : ∀ x, c ≠ .resetRelease x)
    (cycle : ∀ f plan, c = .cycleFrame f plan → accepting = true) :
    ∃ t, exec c s = .next t ∧ Operations accepting s t := by
  have h := Operations.none (accepting := accepting) s
  have unlessLow {f : State → State} (k : Operations accepting s (f s)) : Operations accepting s (if s.resetLow then s else f s) := by
    split
    · exact h
    · exact k
  cases c with
  | cycleFrame f plan =>
    obtain rfl := cycle f plan rfl
    refine ⟨_, rfl, ?_⟩
    split
    · exact h.emit f
    · simp only
      split
      · exact ((h.finishFrame.acceptFrame f).onFrame _).carryOutAll _
      · exact h.finishFrame.refuseFrame f
  | foreignFrame f => exact ⟨_, rfl, h.emit f⟩
  | ringLossTimerExpiry order =>
    refine ⟨_, rfl, ?_⟩
    split
    · exact h
    · simp only
      split
      · exact (h.finishFrame.onPort _).declareLoss order
      · exact h.finishFrame.onPort _
  | resetAssert => exact absurd rfl assert
  | resetRelease x => exact absurd rfl (release x)
  | readTable f => exact ⟨_, rfl, h.serve f fun u => .withArea f 2 fun ws => .readTable ..⟩
  | loadTablePart f => exact ⟨_, rfl, h.serve f (.loadTablePart f)⟩
  | loadTableStand f => exact ⟨_, rfl, h.serve f (.loadTableStand f)⟩
  | loadTablePath f => exact ⟨_, rfl, h.serve f (.loadTablePath f)⟩
  | loadTableGroup f => exact ⟨_, rfl, h.serve f (.loadTableGroup f)⟩
  | loadTableGauge f => exact ⟨_, rfl, h.serve f (.loadTableGauge f)⟩
  | enable f => exact ⟨_, rfl, h.serve f (.standOrder f 2 fun _ => .orderEnable)⟩
  | disable f => exact ⟨_, rfl, h.serve f (.standOrder f 2 fun _ => .orderDisable)⟩
  | park f => exact ⟨_, rfl, h.serve f (.standOrder f 2 fun _ => .orderPark)⟩
  | resume f => exact ⟨_, rfl, h.serve f (.standOrder f 2 fun _ => .orderResume)⟩
  | mount f => exact ⟨_, rfl, h.serve f (.standOrder f 8 fun _ n => .orderMount n _)⟩
  | unmount f => exact ⟨_, rfl, h.serve f (.standOrder f 2 fun _ => .orderUnmount)⟩
  | range f => exact ⟨_, rfl, h.serve f (.standOrder f 2 fun _ => .orderRange)⟩
  | autoOn f => exact ⟨_, rfl, h.serve f (.standOrder f 2 fun _ => .orderAuto true)⟩
  | autoOff f => exact ⟨_, rfl, h.serve f (.standOrder f 2 fun _ => .orderAuto false)⟩
  | spliceNow f => exact ⟨_, rfl, h.serve f (.standOrder f 2 fun _ => .orderSpliceNow)⟩
  | abort f => exact ⟨_, rfl, h.serve f (.standOrder f 2 fun _ => .orderAbort)⟩
  | clearFault f => exact ⟨_, rfl, h.serve f (.standOrder f 2 fun _ => .orderClearFault)⟩
  | groupOrderHold f => exact ⟨_, rfl, h.serve f (.groupOrder f true)⟩
  | groupOrderRelease f => exact ⟨_, rfl, h.serve f (.groupOrder f false)⟩
  | readStand f => exact ⟨_, rfl, h.serve f fun u => .withArea f 2 fun ws => by split <;> exact .none u⟩
  | readTracker f => exact ⟨_, rfl, h.serve f fun u => .withArea f 2 fun ws => by split <;> exact .none u⟩
  | takeEvents f =>
    refine ⟨_, rfl, h.serve f fun u => .withArea f 2 fun ws => ?_⟩
    simp only
    split
    · exact .takeRecords ..
    · exact .none u
  | clearAttention f => exact ⟨_, rfl, h.serve f fun u => .withArea f 3 fun ws => .clearAttention ..⟩
  | restartPart f => exact ⟨_, rfl, h.serve f (.restartPart f)⟩
  | unknownRequest f => exact ⟨_, rfl, h.serve f (.unknownAnswer f)⟩
  | automaticTrigger n => exact ⟨_, rfl, h.comesAbout ..⟩
  | lockGrant g => exact ⟨_, rfl, h.comesAbout ..⟩
  | forcedStart n => exact ⟨_, rfl, h.comesAbout ..⟩
  | pastingAdvanceEntry n => exact ⟨_, rfl, h.comesAbout ..⟩
  | pasteInstant n => exact ⟨_, rfl, h.comesAbout ..⟩
  | pasteConfirm n => exact ⟨_, rfl, h.comesAbout ..⟩
  | spliceCompletion n => exact ⟨_, rfl, h.comesAbout ..⟩
  | matchDeadline n => exact ⟨_, rfl, h.comesAbout ..⟩
  | advanceDeadline n => exact ⟨_, rfl, h.comesAbout ..⟩
  | confirmDeadline n => exact ⟨_, rfl, h.comesAbout ..⟩
  | knifeTimeout n => exact ⟨_, rfl, h.comesAbout ..⟩
  | gaugeMeasureStart g => exact ⟨_, rfl, h.comesAbout ..⟩
  | gaugeResult g => exact ⟨_, rfl, h.comesAbout ..⟩
  | gaugeMeasureTimeout g => exact ⟨_, rfl, h.comesAbout ..⟩
  | gaugeCancelEnd g => exact ⟨_, rfl, h.comesAbout ..⟩
  | gaugeCancelTimeout g => exact ⟨_, rfl, h.comesAbout ..⟩
  | samplesStale f => exact ⟨_, rfl, h.comesAbout ..⟩
  | holdCheckpoint n => exact ⟨_, rfl, h.comesAbout ..⟩
  | rejectPoint n => exact ⟨_, rfl, h.comesAbout ..⟩
  | clearancePoint n => exact ⟨_, rfl, h.comesAbout ..⟩
  | standTablePendingApply n => exact ⟨_, rfl, unlessLow (.single (.settleStand s n))⟩
  | gaugeTablePendingApply g => exact ⟨_, rfl, unlessLow (.single (.settleGauge s g))⟩
  | pathTablePendingApply n => exact ⟨_, rfl, unlessLow (.single (.settlePath s n))⟩
  | groupTablePendingApply g => exact ⟨_, rfl, unlessLow (.single (.settleGroup s g))⟩

end Sys2Proof.Machine
end

section
/-!
PROOFS. What any command can do to the tables: of one table it applies a load or holds one pending, of all others it leaves the
table, the loaded condition and the pending load (R43, R44, R45, R122, R140, R141, R143, R173).
-/

namespace Sys2Proof.Machine

/-! ### A load over a table (R170) -/

/-- R170: the entries after the values of a run are written, from the `k`-th value on. -/
theorem over_entries (first : Nat) (values : List Word) (k : Nat) {m : Nat} (t : Vector Word m) (i : Nat) (h : i < m) :
    ((values.zipIdx k).foldl (fun t v => t.setIfInBounds (first + v.2) v.1) t)[i] =
      if first + k ≤ i ∧ i < first + k + values.length then slotAt values (i - (first + k)) else t[i] := by
  induction values generalizing k t with
  | nil => exact (if_neg (by simp)).symm
  | cons v values ih =>
    rw [List.zipIdx_cons, List.foldl_cons, ih, Vector.getElem_setIfInBounds, List.length_cons]
    rcases Nat.lt_trichotomy i (first + k) with below | rfl | above
    · rw [if_neg (by omega), if_neg (by omega), if_neg (by omega)]
    · rw [if_neg (by omega), if_pos rfl, if_pos (by omega), Nat.sub_self, slotAt_cons_zero]
    · by_cases inside : i < first + k + values.length + 1
      · rw [if_pos (by omega), if_pos (by omega), show i - (first + k) = i - (first + (k + 1)) + 1 by omega, slotAt_cons_succ]
      · rw [if_neg (by omega), if_neg (by omega), if_neg (by omega)]

/-- R170: an entry after a load: the load's value within its run, as it was outside. -/
theorem Load.over_getElem (l : Load) {m : Nat} (t : Vector Word m) (i : Nat) (h : i < m) :
    (l.over t)[i] =
      if l.first ≤ i ∧ i < l.first + l.values.length then slotAt l.values (i - l.first) else t[i] :=
  over_entries l.first l.values 0 t i h

/-- R170: the table after a load is known by its entries. -/
theorem Load.over_eq {l : Load} {m : Nat} {t u : Vector Word m}
    (h : ∀ i : Fin m, u[i.val] =
      if l.first ≤ i.val ∧ i.val < l.first + l.values.length then slotAt l.values (i.val - l.first) else t[i.val]) :
    l.over t = u :=
  Vector.ext fun i hi => (l.over_getElem t i hi).trans (h ⟨i, hi⟩).symm

/-- R42 step 1: a load in range, by its run and each of its values. -/
theorem Load.inRange_iff (l : Load) (m : Nat) (bounds : Nat → Bounds) :
    l.inRange m bounds = true ↔
      l.values.length ≤ 16 ∧ l.first + l.values.length ≤ m ∧
        ∀ i, i < l.values.length → withinBounds (bounds (l.first + i)) (slotAt l.values i) = true := by
  simp only [Load.inRange, Bool.and_eq_true, decide_eq_true_eq, List.all_eq_true, and_assoc]
  refine and_congr_right fun _ => and_congr_right fun _ => ⟨fun h i hi => ?_, fun h p hp => ?_⟩
  · have m : (l.values[i], i) ∈ l.values.zipIdx := by
      rw [List.mem_zipIdx_iff_getElem?]
      exact List.getElem?_eq_getElem hi
    simpa [slotAt, hi] using h _ m
  · rw [List.mem_zipIdx_iff_getElem?] at hp
    obtain ⟨hi, e⟩ := List.getElem?_eq_some_iff.1 hp
    simpa [slotAt, hi, e] using h p.2 hi

/-- R42 step 1: a load in range keeps every entry of a table in its range. -/
theorem entriesWithin_over {m : Nat} {bounds : Nat → Bounds} {l : Load} {t : Vector Word m} (h : entriesWithin bounds t)
    (r : l.inRange m bounds = true) : entriesWithin bounds (l.over t) := by
  obtain ⟨-, -, values⟩ := (l.inRange_iff m bounds).1 r
  intro i
  rw [l.over_getElem t i.val i.isLt]
  split
  · next inside =>
    have := values (i.val - l.first) (by omega)
    rwa [show l.first + (i.val - l.first) = i.val by omega] at this
  · exact h i

/-! ### The tests of a load (R42, R122, R140, R143, R173) -/

/-- A test of a load passed, and the tests after it. -/
theorem test_eq_none {α : Type} {p : Prop} [Decidable p] {c : α} {k : Option α} :
    (if p then some c else k) = none ↔ ¬p ∧ k = none := by
  split <;> simp_all

section

variable (l : Load) (s : State)

/-- R173: a part-table load that is not refused. -/
theorem partLoadRefusal_eq_none : partLoadRefusal l s = none ↔
    l.inRange 4 partBounds = true ∧ s.placeable .part [statusField (l.over s.responder.table)] = true := by
  simp [partLoadRefusal, test_eq_none]

/-- R42: a stand-table load that is not refused. -/
theorem standLoadRefusal_eq_none (n : StandNo) : standLoadRefusal n l s = none ↔
    l.inRange 28 standBounds = true ∧ (s.stand n).pendingLoad = none ∧
      coreDiameter (l.over (s.stand n).table) < spliceDiameter (l.over (s.stand n).table) ∧
      s.placeable (.stand n) [standField n (l.over (s.stand n).table)] = true ∧
      ((s.stand n).state = .offline ∨ s.tablesOf (l.over (s.stand n).table) = true) := by
  simp [standLoadRefusal, test_eq_none, or_iff_not_imp_left]

/-- R140: a path-table load that is not refused. -/
theorem pathLoadRefusal_eq_none (n : StandNo) : pathLoadRefusal n l s = none ↔
    l.inRange 17 pathBounds = true ∧ (s.path n).pendingLoad = none ∧ pathShape (l.over (s.path n).table) = true ∧
      s.placeable (.path n) (holdFields (l.over (s.path n).table)) = true := by
  simp [pathLoadRefusal, test_eq_none]

/-- R143: a group-table load that is not refused. -/
theorem groupLoadRefusal_eq_none (g : GroupNo) : groupLoadRefusal g l s = none ↔
    l.inRange 6 groupBounds = true ∧ (s.group g).pendingLoad = none ∧
      s.placeable (.group g) [folderField g (l.over (s.group g).table)] = true := by
  simp [groupLoadRefusal, test_eq_none]

/-- R122: a gauge-table load that is not refused. -/
theorem gaugeLoadRefusal_eq_none (g : GaugeNo) : gaugeLoadRefusal g l s = none ↔
    l.inRange 3 gaugeBounds = true ∧ (s.gauge g).pendingLoad = none ∧
      s.placeable (.gauge g) [gaugeField g (l.over (s.gauge g).table)] = true := by
  simp [gaugeLoadRefusal, test_eq_none]

end

/-! ### Steps of the tables -/

/-- The load that a table holds pending. -/
def State.pendingOf (s : State) : TableId → Option Load
  | .part => none
  | .stand n => (s.stand n).pendingLoad
  | .path n => (s.path n).pendingLoad
  | .group g => (s.group g).pendingLoad
  | .gauge g => (s.gauge g).pendingLoad

/-- The tests of a table's load (R42, R122, R140, R143, R173). -/
def State.refusalOf (s : State) (l : Load) : TableId → Option ReplyStatus
  | .part => partLoadRefusal l s
  | .stand n => standLoadRefusal n l s
  | .path n => pathLoadRefusal n l s
  | .group g => groupLoadRefusal g l s
  | .gauge g => gaugeLoadRefusal g l s

/-- A table's values, loaded condition and pending load are as they were. -/
def SameTable (s t : State) : TableId → Prop
  | .part => t.responder.table = s.responder.table
  | .stand n => (s.stand n).SameLoad (t.stand n)
  | .path n => t.path n = s.path n
  | .group g =>
    (t.group g).table = (s.group g).table ∧ (t.group g).loaded = (s.group g).loaded ∧
      (t.group g).pendingLoad = (s.group g).pendingLoad
  | .gauge g => (s.gauge g).SameLoad (t.gauge g)

/-- A load has been applied to a table, which holds none pending. -/
def TableApplied (l : Load) (s t : State) : TableId → Prop
  | .part => t.responder.table = l.over s.responder.table
  | .stand n => (t.stand n).table = l.over (s.stand n).table ∧ (t.stand n).loaded = true ∧ (t.stand n).pendingLoad = none
  | .path n => t.path n = { table := l.over (s.path n).table, loaded := true, pendingLoad := none }
  | .group g => (t.group g).table = l.over (s.group g).table ∧ (t.group g).loaded = true ∧ (t.group g).pendingLoad = none
  | .gauge g => (t.gauge g).table = l.over (s.gauge g).table ∧ (t.gauge g).loaded = true ∧ (t.gauge g).pendingLoad = none

/-- A load has come to be held pending by a table. -/
def TableHeld (l : Load) (s t : State) : TableId → Prop
  | .part => False
  | .stand n => (t.stand n).table = (s.stand n).table ∧ (t.stand n).loaded = (s.stand n).loaded ∧ (t.stand n).pendingLoad = some l
  | .path n => t.path n = { s.path n with pendingLoad := some l }
  | .group g => (t.group g).table = (s.group g).table ∧ (t.group g).loaded = (s.group g).loaded ∧ (t.group g).pendingLoad = some l
  | .gauge g => (t.gauge g).table = (s.gauge g).table ∧ (t.gauge g).loaded = (s.gauge g).loaded ∧ (t.gauge g).pendingLoad = some l

/-- One step of the tables: none changes, a pending load is applied, or a load that is not refused is applied or held. -/
inductive TableStep : State → State → Prop
  | same (s t : State) (h : ∀ o, SameTable s t o) : TableStep s t
  | released (s t : State) (id : TableId) (l : Load) (rest : ∀ o, o ≠ id → SameTable s t o) (held : s.pendingOf id = some l)
      (h : TableApplied l s t id) : TableStep s t
  | loaded (s t : State) (id : TableId) (l : Load) (rest : ∀ o, o ≠ id → SameTable s t o) (fits : s.refusalOf l id = none)
      (h : TableApplied l s t id ∨ TableHeld l s t id) : TableStep s t

/-- A chain of steps of the tables. -/
abbrev TableSteps : State → State → Prop := Relation.ReflTransGen TableStep

theorem SameTable.refl (s : State) (o : TableId) : SameTable s s o := by
  cases o with
  | part => exact rfl
  | stand n => exact ⟨rfl, rfl, rfl⟩
  | path n => exact rfl
  | group g => exact ⟨rfl, rfl, rfl⟩
  | gauge g => exact ⟨rfl, rfl, rfl⟩

/-- Where the blocks are the same, so are the tables. -/
theorem SameTable.of_blocks {s t : State} (a : t.stands = s.stands) (b : t.groups = s.groups) (c : t.gauges = s.gauges)
    (d : t.paths = s.paths) (e : t.responder.table = s.responder.table) (o : TableId) : SameTable s t o := by
  have h := SameTable.refl s o
  cases o with
  | part => exact e
  | stand n => simpa only [SameTable, State.stand, a] using h
  | path n => simp only [SameTable, State.path, d]
  | group g => simpa only [SameTable, State.group, b] using h
  | gauge g => simpa only [SameTable, State.gauge, c] using h

theorem sameTable_onStand (s : State) (n : StandNo) (f : Stand → Stand) (o : TableId) (h : o ≠ .stand n) :
    SameTable s (s.onStand n f) o := by
  cases o with
  | stand m =>
    have : n ≠ m := fun e => h (by rw [e])
    rw [SameTable, State.onStand_stand_ne _ _ _ _ this]
    exact ⟨rfl, rfl, rfl⟩
  | part => exact SameTable.refl s .part
  | path m => exact SameTable.refl s (.path m)
  | group m => exact SameTable.refl s (.group m)
  | gauge m => exact SameTable.refl s (.gauge m)

theorem sameTable_onGroup (s : State) (g : GroupNo) (f : Group → Group) (o : TableId) (h : o ≠ .group g) :
    SameTable s (s.onGroup g f) o := by
  cases o with
  | group m =>
    have : g ≠ m := fun e => h (by rw [e])
    rw [SameTable, State.onGroup_group_ne _ _ _ _ this]
    exact ⟨rfl, rfl, rfl⟩
  | part => exact SameTable.refl s .part
  | stand m => exact SameTable.refl s (.stand m)
  | path m => exact SameTable.refl s (.path m)
  | gauge m => exact SameTable.refl s (.gauge m)

theorem sameTable_onGauge (s : State) (g : GaugeNo) (f : Gauge → Gauge) (o : TableId) (h : o ≠ .gauge g) :
    SameTable s (s.onGauge g f) o := by
  cases o with
  | gauge m =>
    have : g ≠ m := fun e => h (by rw [e])
    rw [SameTable, State.onGauge_gauge_ne _ _ _ _ this]
    exact ⟨rfl, rfl, rfl⟩
  | part => exact SameTable.refl s .part
  | stand m => exact SameTable.refl s (.stand m)
  | path m => exact SameTable.refl s (.path m)
  | group m => exact SameTable.refl s (.group m)

theorem sameTable_onPath (s : State) (n : StandNo) (f : PathTable → PathTable) (o : TableId) (h : o ≠ .path n) :
    SameTable s (s.onPath n f) o := by
  cases o with
  | path m =>
    have : n ≠ m := fun e => h (by rw [e])
    rw [SameTable, State.onPath_path_ne _ _ _ _ this]
  | part => exact SameTable.refl s .part
  | stand m => exact SameTable.refl s (.stand m)
  | group m => exact SameTable.refl s (.group m)
  | gauge m => exact SameTable.refl s (.gauge m)

/-- What follows a change without touching a table. -/
theorem SameTable.trans {s t u : State} {o : TableId} (h : SameTable s t o) (k : SameTable t u o) : SameTable s u o := by
  cases o with
  | part => exact Eq.trans k h
  | stand n => exact ⟨k.table.trans h.table, k.loaded.trans h.loaded, k.pendingLoad.trans h.pendingLoad⟩
  | path n => exact Eq.trans k h
  | group g =>
    obtain ⟨a, b, c⟩ := h
    obtain ⟨a', b', c'⟩ := k
    exact ⟨a'.trans a, b'.trans b, c'.trans c⟩
  | gauge g => exact ⟨k.table.trans h.table, k.loaded.trans h.loaded, k.pendingLoad.trans h.pendingLoad⟩

theorem sameTable_takeEvent (s : State) (k : EventKind) (a : Option StandNo) (b : Option EventUnit) (d : Option Nat) (o : TableId) :
    SameTable s (s.takeEvent k a b d) o :=
  .of_blocks (s := s) (t := s.takeEvent k a b d) rfl rfl rfl rfl (s.takeEvent_table k a b d) o

theorem sameTable_markMoved (s : State) (f : InputField) (b : Bool) (o : TableId) : SameTable s (markMoved f b s) o :=
  .of_blocks (by simp) (by simp) (by simp) (by simp) (by simp) o

/-! ### Applied loads -/

section

variable (s : State) (l : Load)

theorem applyPartLoad_rest (o : TableId) (h : o ≠ .part) : SameTable s (applyPartLoad l s) o := by
  cases o with
  | part => exact absurd rfl h
  | stand m => exact SameTable.refl s (.stand m)
  | path m => exact SameTable.refl s (.path m)
  | group m => exact SameTable.refl s (.group m)
  | gauge m => exact SameTable.refl s (.gauge m)

theorem applyStandLoad_rest (n : StandNo) (o : TableId) (h : o ≠ .stand n) : SameTable s (applyStandLoad n l s) o :=
  (sameTable_onStand s n _ o h).trans (sameTable_markMoved _ _ _ o)

theorem applyGaugeLoad_rest (g : GaugeNo) (o : TableId) (h : o ≠ .gauge g) : SameTable s (applyGaugeLoad g l s) o :=
  (sameTable_onGauge s g _ o h).trans (sameTable_markMoved _ _ _ o)

theorem applyGroupLoad_rest (g : GroupNo) (o : TableId) (h : o ≠ .group g) : SameTable s (applyGroupLoad g l s) o :=
  (sameTable_onGroup s g _ o h).trans (sameTable_markMoved _ _ _ o)

theorem applyPathLoad_rest (n : StandNo) (o : TableId) (h : o ≠ .path n) : SameTable s (applyPathLoad n l s) o :=
  sameTable_onPath s n _ o h

/-- R43: what a stand-table load leaves of its stand. -/
theorem applyStandLoad_self (n : StandNo) : ∃ m, (applyStandLoad n l s).stand n =
    { s.stand n with table := l.over (s.stand n).table, loaded := true, monitor := m } := by
  simp [applyStandLoad]

/-- R122: what a gauge-table load leaves of its gauge. -/
theorem applyGaugeLoad_self (g : GaugeNo) : ∃ m, (applyGaugeLoad g l s).gauge g =
    { s.gauge g with table := l.over (s.gauge g).table, loaded := true, monitor := m } := by
  simp [applyGaugeLoad]

/-- R143: what a group-table load leaves of its group. -/
theorem applyGroupLoad_self (g : GroupNo) : ∃ m, (applyGroupLoad g l s).group g =
    { s.group g with table := l.over (s.group g).table, loaded := true, monitor := m } := by
  simp [applyGroupLoad]

end

/-! ### Every operation is a chain of steps of the tables -/

theorem Change.tableStep {s t : State} (h : Change s t) : TableStep s t := by
  cases h with
  | onStand n f h =>
    refine .same _ _ fun o => ?_
    by_cases e : o = .stand n
    · subst e; simpa [SameTable] using h
    · exact sameTable_onStand s n f o e
  | onGroup g f h =>
    refine .same _ _ fun o => ?_
    by_cases e : o = .group g
    · subst e; simpa [SameTable] using ⟨h.table, h.loaded, h.pendingLoad⟩
    · exact sameTable_onGroup s g f o e
  | onGauge g f h =>
    refine .same _ _ fun o => ?_
    by_cases e : o = .gauge g
    · subst e; simpa [SameTable] using h
    · exact sameTable_onGauge s g f o e
  | onFrame f h => exact .same _ _ (.of_blocks rfl rfl rfl rfl rfl)
  | windows ws => exact .same _ _ (.of_blocks rfl rfl rfl rfl rfl)
  | event k a b d => exact .same _ _ (sameTable_takeEvent s k a b d)
  | flags n x => exact .same _ _ (.of_blocks rfl rfl rfl rfl rfl)
  | standLoad n =>
    unfold releaseStandLoad
    split
    · next l held =>
      refine .released _ _ (.stand n) l (fun o e => ?_) held ?_
      · exact ((applyStandLoad_rest s l n o e).trans (sameTable_onStand _ n _ o e)).trans (sameTable_takeEvent ..)
      · obtain ⟨m, e⟩ := applyStandLoad_self s l n
        simp [TableApplied, e]
    · exact .same _ _ (SameTable.refl s)
  | gaugeLoad g =>
    unfold releaseGaugeLoad
    split
    · next l held =>
      refine .released _ _ (.gauge g) l (fun o e => ?_) held ?_
      · exact ((applyGaugeLoad_rest s l g o e).trans (sameTable_onGauge _ g _ o e)).trans (sameTable_takeEvent ..)
      · obtain ⟨m, e⟩ := applyGaugeLoad_self s l g
        simp [TableApplied, e]
    · exact .same _ _ (SameTable.refl s)
  | groupLoad g =>
    unfold releaseGroupLoad
    split
    · next l held =>
      refine .released _ _ (.group g) l (fun o e => ?_) held ?_
      · exact ((applyGroupLoad_rest s l g o e).trans (sameTable_onGroup _ g _ o e)).trans (sameTable_takeEvent ..)
      · obtain ⟨m, e⟩ := applyGroupLoad_self s l g
        simp [TableApplied, e]
    · exact .same _ _ (SameTable.refl s)
  | pathLoad n =>
    unfold releasePathLoad
    split
    · next l held =>
      refine .released _ _ (.path n) l (fun o e => ?_) held ?_
      · exact ((applyPathLoad_rest s l n o e).trans (sameTable_onPath _ n _ o e)).trans (sameTable_takeEvent ..)
      · simp [TableApplied, applyPathLoad]
    · exact .same _ _ (SameTable.refl s)

/-- R42, R122, R140, R143: a load that is not refused finds none pending at its table. -/
theorem State.pendingOf_of_fits {s : State} {l : Load} {id : TableId} (h : s.refusalOf l id = none) : s.pendingOf id = none := by
  cases id with
  | part => rfl
  | stand n => exact ((standLoadRefusal_eq_none l s n).1 h).2.1
  | path n => exact ((pathLoadRefusal_eq_none l s n).1 h).2.1
  | group g => exact ((groupLoadRefusal_eq_none l s g).1 h).2.1
  | gauge g => exact ((gaugeLoadRefusal_eq_none l s g).1 h).2.1

theorem Loading.tableStep {s t : State} (h : Loading s t) : TableStep s t := by
  cases h with
  | part l h => exact .loaded _ _ .part l (applyPartLoad_rest s l) h (.inl rfl)
  | stand n l h free =>
    refine .loaded _ _ (.stand n) l (applyStandLoad_rest s l n) h (.inl ?_)
    obtain ⟨m, e⟩ := applyStandLoad_self s l n
    have none : (s.stand n).pendingLoad = none := State.pendingOf_of_fits (id := .stand n) h
    simp [TableApplied, e, none]
  | standHeld n l h held => exact .loaded _ _ (.stand n) l (sameTable_onStand s n _) h (.inr (by simp [TableHeld]))
  | path n l h free =>
    have none : (s.path n).pendingLoad = none := State.pendingOf_of_fits (id := .path n) h
    exact .loaded _ _ (.path n) l (sameTable_onPath s n _) h (.inl (by simp [TableApplied, applyPathLoad, none]))
  | pathHeld n l h held => exact .loaded _ _ (.path n) l (sameTable_onPath s n _) h (.inr (by simp [TableHeld]))
  | group g l h =>
    refine .loaded _ _ (.group g) l (applyGroupLoad_rest s l g) h (.inl ?_)
    obtain ⟨m, e⟩ := applyGroupLoad_self s l g
    have none : (s.group g).pendingLoad = none := State.pendingOf_of_fits (id := .group g) h
    simp [TableApplied, e, none]
  | groupHeld g l h held => exact .loaded _ _ (.group g) l (sameTable_onGroup s g _) h (.inr (by simp [TableHeld]))
  | gauge g l h =>
    refine .loaded _ _ (.gauge g) l (applyGaugeLoad_rest s l g) h (.inl ?_)
    obtain ⟨m, e⟩ := applyGaugeLoad_self s l g
    have none : (s.gauge g).pendingLoad = none := State.pendingOf_of_fits (id := .gauge g) h
    simp [TableApplied, e, none]
  | gaugeHeld g l h held => exact .loaded _ _ (.gauge g) l (sameTable_onGauge s g _) h (.inr (by simp [TableHeld]))

theorem Changes.tableSteps {s t : State} (h : Changes s t) : TableSteps s t :=
  Relation.ReflTransGen.mono (fun _ _ => Change.tableStep) _ _ h

theorem Operation.tableSteps {accepting : Bool} {s t : State} (h : Operation accepting s t) : TableSteps s t := by
  cases h with
  | outside _ h _ => exact .single (.same _ _ (.of_blocks h.stands h.groups h.gauges h.paths (by rw [h.responder])))
  | perform w => exact (Changes.perform w s).tableSteps
  | lose o => exact (Changes.loseAt s o).tableSteps
  | event k a b d => exact ((Changes.none s).event k a b d).tableSteps
  | responder f table events => exact .single (.same _ _ (.of_blocks rfl rfl rfl rfl table))
  | counter o => exact ((Changes.none s).advanceCounter o).tableSteps
  | newFrame g => exact ((Changes.none s).onGroup g _).tableSteps
  | hold g held => exact ((Changes.none s).onGroup g _).tableSteps
  | order h => exact h.changes.tableSteps
  | load h => exact .single h.tableStep
  | settleStand n => exact ((Changes.none s).settleStand n).tableSteps
  | settleGauge g => exact ((Changes.none s).settleGauge g).tableSteps
  | settleGroup g => exact ((Changes.none s).settleGroup g).tableSteps
  | settlePath n => exact ((Changes.none s).settlePath n).tableSteps
  | restart h =>
    have rest (u : State) : TableStep u (({ u with windows := [] } : State).onResponder Responder.restarted) :=
      .same _ _ (.of_blocks (s := u) rfl rfl rfl rfl rfl)
    exact (Changes.restartBlocks s).tableSteps.tail (rest _)

/-- What every step of the tables keeps, every command keeps that moves no RESET. -/
theorem Operations.tableSteps {accepting : Bool} {s t : State} (h : Operations accepting s t) : TableSteps s t := by
  induction h with
  | refl => exact .refl
  | tail _ k ih => exact ih.trans k.tableSteps

end Sys2Proof.Machine
end

section
/-!
PROOFS. What every step keeps of the tables and of the event queue (R40, R122, R139, R142, R152, R173, R179), and what every command
keeps of the queue of commands, the node address and RESET (R192).
-/

namespace Sys2Proof.Machine

/-! ### Conditions that every step keeps -/

/-- A condition on the blocks that the power-on values meet and every operation keeps. -/
structure Kept (P : State → Prop) : Prop where
  blocks : ∀ {s t : State}, t.stands = s.stands → t.groups = s.groups → t.gauges = s.gauges → t.paths = s.paths →
    t.responder = s.responder → P s → P t
  operation : ∀ {accepting : Bool} {s t : State}, Operation accepting s t → P s → P t
  powerOn : ∀ straps, P (State.powerOn straps)

namespace Kept

variable {P : State → Prop} {s t : State}

theorem operations (k : Kept P) {accepting : Bool} (h : Operations accepting s t) (p : P s) : P t := by
  induction h with
  | refl => exact p
  | tail _ h ih => exact k.operation h ih

/-- Every command keeps it. -/
theorem exec (k : Kept P) (c : Instr) (p : P s) (e : exec c s = .next t) : P t := by
  by_cases assert : c = .resetAssert
  · subst assert
    obtain rfl := Host.Outcome.next.inj e
    exact k.blocks (s := s) rfl rfl rfl rfl rfl p
  by_cases release : ∃ x, c = .resetRelease x
  · obtain ⟨x, rfl⟩ := release
    obtain rfl := Host.Outcome.next.inj e
    exact k.blocks (s := State.powerOn x) rfl rfl rfl rfl rfl (k.powerOn x)
  · obtain ⟨u, run, chain⟩ := exec_operations (accepting := true) c s assert (fun x h => release ⟨x, h⟩) fun _ _ _ => rfl
    obtain rfl := Host.Outcome.next.inj (run.symm.trans e)
    exact k.operations chain p

/-- Every step keeps it. -/
theorem step (k : Kept P) (p : P s) (e : step s = .next t) : P t := by
  unfold Machine.step at e
  split at e
  · obtain rfl := Host.Outcome.next.inj e
    exact p
  · next c rest _ =>
    have q : P { s with pending := rest } := k.blocks (s := s) rfl rfl rfl rfl rfl p
    exact k.exec c q e

end Kept

/-! ### The power-on values, part by part -/

section

variable (straps : BitVec 4)

@[simp] theorem State.powerOn_stand (n : StandNo) : (State.powerOn straps).stand n = Stand.powerOn := by
  simp [State.powerOn, State.stand]

@[simp] theorem State.powerOn_group (g : GroupNo) : (State.powerOn straps).group g = Group.powerOn := by
  simp [State.powerOn, State.group]

@[simp] theorem State.powerOn_gauge (g : GaugeNo) : (State.powerOn straps).gauge g = Gauge.powerOn := by
  simp [State.powerOn, State.gauge]

@[simp] theorem State.powerOn_path (n : StandNo) : (State.powerOn straps).path n = PathTable.powerOn := by
  simp [State.powerOn, State.path]

@[simp] theorem State.powerOn_responder : (State.powerOn straps).responder = Responder.powerOn := rfl

end

/-! ### The ranges of the tables (R40, R122, R139, R142, R173) -/

/-- What `State.tablesSound` says of one table. -/
def State.instanceSound (s : State) : TableId → Prop
  | .part => entriesWithin partBounds s.responder.table
  | .stand n => (s.stand n).tableSound
  | .path n => (s.path n).sound
  | .group g => entriesWithin groupBounds (s.group g).table ∧ (s.group g).pendingLoad.all (·.inRange 6 groupBounds)
  | .gauge g => entriesWithin gaugeBounds (s.gauge g).table ∧ (s.gauge g).pendingLoad.all (·.inRange 3 gaugeBounds)

theorem State.tablesSound_iff (s : State) : s.tablesSound ↔ ∀ o, s.instanceSound o := by
  constructor
  · rintro ⟨stands, paths, groups, gauges, part⟩ (_ | n | n | g | g)
    · exact part
    · exact stands n
    · exact paths n
    · exact groups g
    · exact gauges g
  · exact fun h => ⟨fun n => h (.stand n), fun n => h (.path n), fun g => h (.group g), fun g => h (.gauge g), h .part⟩

theorem SameTable.instanceSound {s t : State} {o : TableId} (h : SameTable s t o) (k : s.instanceSound o) : t.instanceSound o := by
  cases o with
  | part => rw [State.instanceSound, show t.responder.table = s.responder.table from h]; exact k
  | stand n => simpa only [State.instanceSound, Stand.tableSound, h.table, h.pendingLoad] using k
  | path n => rw [State.instanceSound, show t.path n = s.path n from h]; exact k
  | group g =>
    obtain ⟨table, -, load⟩ := h
    simpa only [State.instanceSound, table, load] using k
  | gauge g => simpa only [State.instanceSound, h.table, h.pendingLoad] using k

/-- R45, R122, R141, R143: a load held pending was judged by the values that it is applied over. -/
theorem TableApplied.instanceSound_of_held {s t : State} {o : TableId} {l : Load} (h : TableApplied l s t o)
    (held : s.pendingOf o = some l) (k : s.instanceSound o) : t.instanceSound o := by
  cases o with
  | part => cases held
  | stand n =>
    obtain ⟨table, -, none⟩ := h
    obtain ⟨range, -, load⟩ := k
    simp only [State.pendingOf] at held
    simp only [held, Option.all_some, Bool.and_eq_true, decide_eq_true_eq] at load
    simp only [State.instanceSound, Stand.tableSound, table, none]
    exact ⟨entriesWithin_over range load.1, load.2, rfl⟩
  | path n =>
    obtain ⟨range, -, load⟩ := k
    simp only [State.pendingOf] at held
    simp only [held, Option.all_some, Bool.and_eq_true] at load
    simp only [State.instanceSound, PathTable.sound, show t.path n = _ from h]
    exact ⟨entriesWithin_over range load.1, load.2, rfl⟩
  | group g =>
    obtain ⟨table, -, none⟩ := h
    obtain ⟨range, load⟩ := k
    simp only [State.pendingOf] at held
    simp only [held, Option.all_some] at load
    simp only [State.instanceSound, table, none]
    exact ⟨entriesWithin_over range load, rfl⟩
  | gauge g =>
    obtain ⟨table, -, none⟩ := h
    obtain ⟨range, load⟩ := k
    simp only [State.pendingOf] at held
    simp only [held, Option.all_some] at load
    simp only [State.instanceSound, table, none]
    exact ⟨entriesWithin_over range load, rfl⟩

/-- R42, R122, R140, R143, R173: a load that is not refused keeps the ranges, applied or held pending. -/
theorem instanceSound_of_fits {s t : State} {o : TableId} {l : Load} (h : TableApplied l s t o ∨ TableHeld l s t o)
    (fits : s.refusalOf l o = none) (k : s.instanceSound o) : t.instanceSound o := by
  cases o with
  | part =>
    obtain ⟨range, -⟩ := (partLoadRefusal_eq_none l s).1 fits
    rcases h with h | h
    · rw [State.instanceSound, show t.responder.table = _ from h]
      exact entriesWithin_over k range
    · exact h.elim
  | stand n =>
    obtain ⟨range, -, diameters, -, -⟩ := (standLoadRefusal_eq_none l s n).1 fits
    obtain ⟨within, above, -⟩ := k
    rcases h with ⟨table, -, load⟩ | ⟨table, -, load⟩ <;> simp only [State.instanceSound, Stand.tableSound, table, load]
    · exact ⟨entriesWithin_over within range, diameters, rfl⟩
    · exact ⟨within, above, by simp [range, diameters]⟩
  | path n =>
    obtain ⟨range, -, shape, -⟩ := (pathLoadRefusal_eq_none l s n).1 fits
    obtain ⟨within, shaped, -⟩ := k
    rcases h with h | h <;> simp only [State.instanceSound, PathTable.sound, show t.path n = _ from h]
    · exact ⟨entriesWithin_over within range, shape, rfl⟩
    · exact ⟨within, shaped, by simp [range, shape]⟩
  | group g =>
    obtain ⟨range, -, -⟩ := (groupLoadRefusal_eq_none l s g).1 fits
    obtain ⟨within, -⟩ := k
    rcases h with ⟨table, -, load⟩ | ⟨table, -, load⟩ <;> simp only [State.instanceSound, table, load]
    · exact ⟨entriesWithin_over within range, rfl⟩
    · exact ⟨within, by simp [range]⟩
  | gauge g =>
    obtain ⟨range, -, -⟩ := (gaugeLoadRefusal_eq_none l s g).1 fits
    obtain ⟨within, -⟩ := k
    rcases h with ⟨table, -, load⟩ | ⟨table, -, load⟩ <;> simp only [State.instanceSound, table, load]
    · exact ⟨entriesWithin_over within range, rfl⟩
    · exact ⟨within, by simp [range]⟩

theorem TableStep.tablesSound {s t : State} (h : TableStep s t) (k : s.tablesSound) : t.tablesSound := by
  rw [State.tablesSound_iff] at k ⊢
  intro o
  cases h with
  | same h => exact (h o).instanceSound (k o)
  | released id l rest held h =>
    by_cases e : o = id
    · subst e; exact h.instanceSound_of_held held (k o)
    · exact (rest o e).instanceSound (k o)
  | loaded id l rest fits h =>
    by_cases e : o = id
    · subst e; exact instanceSound_of_fits h fits (k o)
    · exact (rest o e).instanceSound (k o)

/-- R40, R122, R139, R142, R173: the defaults lie in their ranges. -/
theorem powerOn_tablesSound (straps : BitVec 4) : (State.powerOn straps).tablesSound := by
  simp only [State.tablesSound, State.powerOn_stand, State.powerOn_path, State.powerOn_group, State.powerOn_gauge,
    State.powerOn_responder]
  exact ⟨fun _ => by decide, fun _ => by decide, fun _ => by decide, fun _ => by decide, by decide⟩

theorem kept_tablesSound : Kept State.tablesSound where
  blocks a b c d e h := TableStep.tablesSound (.same _ _ (.of_blocks a b c d (by rw [e]))) h
  operation h k := by
    have steps := h.tableSteps
    clear h
    induction steps with
    | refl => exact k
    | tail _ step ih => exact step.tablesSound ih
  powerOn := powerOn_tablesSound

/-! ### The placement of the output fields (R152) -/

theorem mem_allTables (o : TableId) : o ∈ allTables := by
  cases o <;> simp [allTables]

/-- R152: sharing a slot is mutual. -/
theorem conflict_comm (x y : Placed OutputField) : conflict x y = conflict y x := by
  simp only [conflict, and_comm, Bool.and_comm]

/-- R152: the fields that a load would place are clear of those of every other table. -/
theorem State.placeable_iff (s : State) (id : TableId) (own : List (Placed OutputField)) :
    s.placeable id own = true ↔ ∀ x ∈ own, ∀ o, o ≠ id → ∀ y ∈ s.fieldsOf o, conflict x y = false := by
  simp [State.placeable, mem_allTables, or_iff_not_imp_left]

theorem SameTable.fieldsOf {s t : State} {o : TableId} (h : SameTable s t o) : t.fieldsOf o = s.fieldsOf o := by
  cases o with
  | part => simp only [State.fieldsOf, show t.responder.table = s.responder.table from h]
  | stand n => simp only [State.fieldsOf, h.table, h.loaded, h.pendingLoad]
  | path n => simp only [State.fieldsOf, show t.path n = s.path n from h]
  | group g =>
    obtain ⟨table, loaded, load⟩ := h
    simp only [State.fieldsOf, table, loaded, load]
  | gauge g => simp only [State.fieldsOf, h.table, h.loaded, h.pendingLoad]

/-- R152: a load that is applied places the fields that it would have placed while it was pending. -/
theorem TableApplied.fieldsOf_of_held {s t : State} {o : TableId} {l : Load} (h : TableApplied l s t o)
    (held : s.pendingOf o = some l) : ∀ x ∈ t.fieldsOf o, x ∈ s.fieldsOf o := by
  cases o with
  | part => cases held
  | stand n =>
    obtain ⟨table, loaded, none⟩ := h
    simp only [State.pendingOf] at held
    simp [State.fieldsOf, table, loaded, none, held]
  | path n =>
    simp only [State.pendingOf] at held
    intro x hx
    simp only [State.fieldsOf, show t.path n = _ from h, Option.map_none, Option.getD_none, List.append_nil] at hx
    simp [State.fieldsOf, held, hx]
  | group g =>
    obtain ⟨table, loaded, none⟩ := h
    simp only [State.pendingOf] at held
    simp [State.fieldsOf, table, loaded, none, held]
  | gauge g =>
    obtain ⟨table, loaded, none⟩ := h
    simp only [State.pendingOf] at held
    simp [State.fieldsOf, table, loaded, none, held]

/-- R152: the fields of a table whose load is not refused were its own, or are clear of those of every other table. -/
theorem fieldsOf_of_fits {s t : State} {id : TableId} {l : Load} (h : TableApplied l s t id ∨ TableHeld l s t id)
    (fits : s.refusalOf l id = none) :
    ∀ x ∈ t.fieldsOf id, x ∈ s.fieldsOf id ∨ ∀ o, o ≠ id → ∀ y ∈ s.fieldsOf o, conflict x y = false := by
  cases id with
  | part =>
    obtain ⟨-, placed⟩ := (partLoadRefusal_eq_none l s).1 fits
    rw [State.placeable_iff] at placed
    rcases h with h | h
    · intro x hx
      simp only [State.fieldsOf, show t.responder.table = _ from h] at hx
      exact .inr (placed x hx)
    · exact h.elim
  | stand n =>
    obtain ⟨-, -, -, placed, -⟩ := (standLoadRefusal_eq_none l s n).1 fits
    rw [State.placeable_iff] at placed
    intro x hx
    rcases h with ⟨table, loaded, load⟩ | ⟨table, loaded, load⟩ <;>
      simp only [State.fieldsOf, table, loaded, load, Option.map_none, Option.map_some, Option.toList, List.append_nil, List.mem_append] at hx
    · exact .inr (placed x hx)
    · exact hx.imp (by simp +contextual [State.fieldsOf]) (placed x)
  | path n =>
    obtain ⟨-, -, -, placed⟩ := (pathLoadRefusal_eq_none l s n).1 fits
    rw [State.placeable_iff] at placed
    intro x hx
    rcases h with h | h <;> simp only [State.fieldsOf, show t.path n = _ from h, Option.map_none, Option.map_some, Option.getD, List.append_nil,
      List.mem_append] at hx
    · exact .inr (placed x hx)
    · exact hx.imp (by simp +contextual [State.fieldsOf]) (placed x)
  | group g =>
    obtain ⟨-, -, placed⟩ := (groupLoadRefusal_eq_none l s g).1 fits
    rw [State.placeable_iff] at placed
    intro x hx
    rcases h with ⟨table, loaded, load⟩ | ⟨table, loaded, load⟩ <;>
      simp only [State.fieldsOf, table, loaded, load, Option.map_none, Option.map_some, Option.toList, List.append_nil, List.mem_append] at hx
    · exact .inr (placed x hx)
    · exact hx.imp (by simp +contextual [State.fieldsOf]) (placed x)
  | gauge g =>
    obtain ⟨-, -, placed⟩ := (gaugeLoadRefusal_eq_none l s g).1 fits
    rw [State.placeable_iff] at placed
    intro x hx
    rcases h with ⟨table, loaded, load⟩ | ⟨table, loaded, load⟩ <;>
      simp only [State.fieldsOf, table, loaded, load, Option.map_none, Option.map_some, Option.toList, List.append_nil, List.mem_append] at hx
    · exact .inr (placed x hx)
    · exact hx.imp (by simp +contextual [State.fieldsOf]) (placed x)

/-- R152: the fields stay apart where one table alone changes, and each of its fields was its own or is clear of all others. -/
theorem placementSound_of_instance {s t : State} (id : TableId) (k : s.placementSound) (rest : ∀ o, o ≠ id → SameTable s t o)
    (h : ∀ x ∈ t.fieldsOf id, x ∈ s.fieldsOf id ∨ ∀ o, o ≠ id → ∀ y ∈ s.fieldsOf o, conflict x y = false) : t.placementSound := by
  have clear (o : TableId) (e : o ≠ id) (x : Placed OutputField) (hx : x ∈ t.fieldsOf id) (y : Placed OutputField)
      (hy : y ∈ t.fieldsOf o) : conflict x y = false := by
    rw [(rest o e).fieldsOf] at hy
    rcases h x hx with own | new
    · exact k id (mem_allTables id) o (mem_allTables o) (Ne.symm e) x own y hy
    · exact new o e y hy
  intro a _ b _ ne x hx y hy
  by_cases ea : a = id
  · subst ea; exact clear b (Ne.symm ne) x hx y hy
  by_cases eb : b = id
  · subst eb; rw [conflict_comm]; exact clear a ne y hy x hx
  · rw [(rest a ea).fieldsOf] at hx
    rw [(rest b eb).fieldsOf] at hy
    exact k a (mem_allTables a) b (mem_allTables b) ne x hx y hy

theorem TableStep.placementSound {s t : State} (h : TableStep s t) (k : s.placementSound) : t.placementSound := by
  cases h with
  | same h => exact placementSound_of_instance .part k (fun o _ => h o) fun x hx => .inl ((h .part).fieldsOf ▸ hx)
  | released id l rest held h => exact placementSound_of_instance id k rest fun x hx => .inl (h.fieldsOf_of_held held x hx)
  | loaded id l rest fits h => exact placementSound_of_instance id k rest (fieldsOf_of_fits h fits)

/-- R151: after power-on the status field is the only output field of the map. -/
theorem powerOn_fieldsOf (straps : BitVec 4) (o : TableId) (h : o ≠ .part) : (State.powerOn straps).fieldsOf o = [] := by
  cases o with
  | part => exact absurd rfl h
  | stand n => simp [State.fieldsOf, Stand.powerOn]
  | path n => rw [State.fieldsOf, State.powerOn_path]; decide
  | group g => simp [State.fieldsOf, Group.powerOn]
  | gauge g => simp [State.fieldsOf, Gauge.powerOn]

theorem powerOn_placementSound (straps : BitVec 4) : (State.powerOn straps).placementSound := by
  intro a _ b _ ne x hx y hy
  by_cases e : a = .part
  · rw [powerOn_fieldsOf straps b (e ▸ ne.symm)] at hy
    cases hy
  · rw [powerOn_fieldsOf straps a e] at hx
    cases hx

theorem kept_placementSound : Kept State.placementSound where
  blocks a b c d e h := TableStep.placementSound (.same _ _ (.of_blocks a b c d (by rw [e]))) h
  operation h k := by
    have steps := h.tableSteps
    clear h
    induction steps with
    | refl => exact k
    | tail _ step ih => exact step.placementSound ih
  powerOn := powerOn_placementSound

/-! ### The event queue (R179) -/

/-- A load applied takes no event. -/
theorem Loading.events {s t : State} (h : Loading s t) : t.responder.events = s.responder.events := by
  cases h with
  | part | standHeld | path | pathHeld | groupHeld | gaugeHeld => rfl
  | stand n => simp [applyStandLoad]
  | group g => simp [applyGroupLoad]
  | gauge g => simp [applyGaugeLoad]

theorem Change.eventsSound {s t : State} (h : Change s t) (k : s.eventsSound) : t.eventsSound := by
  cases h with
  | onStand | onGroup | onGauge | onFrame | windows | flags => exact k
  | event => exact s.takeEvent_eventsSound _ _ _ _ k
  | standLoad n =>
    unfold releaseStandLoad
    split
    · refine State.takeEvent_eventsSound _ _ _ _ _ ?_
      simpa [State.eventsSound, applyStandLoad] using k
    · exact k
  | gaugeLoad g =>
    unfold releaseGaugeLoad
    split
    · refine State.takeEvent_eventsSound _ _ _ _ _ ?_
      simpa [State.eventsSound, applyGaugeLoad] using k
    · exact k
  | groupLoad g =>
    unfold releaseGroupLoad
    split
    · refine State.takeEvent_eventsSound _ _ _ _ _ ?_
      simpa [State.eventsSound, applyGroupLoad] using k
    · exact k
  | pathLoad n =>
    unfold releasePathLoad
    split
    · exact State.takeEvent_eventsSound _ _ _ _ _ k
    · exact k

theorem Changes.eventsSound {s t : State} (h : Changes s t) (k : s.eventsSound) : t.eventsSound := by
  induction h with
  | refl => exact k
  | tail _ step ih => exact step.eventsSound ih

theorem Operation.eventsSound {accepting : Bool} {s t : State} (h : Operation accepting s t) (k : s.eventsSound) : t.eventsSound := by
  cases h with
  | outside _ h _ => rw [State.eventsSound, h.responder]; exact k
  | perform w => exact (Changes.perform w s).eventsSound k
  | lose o => exact (Changes.loseAt s o).eventsSound k
  | event => exact s.takeEvent_eventsSound _ _ _ _ k
  | responder f table events => exact events.trans k
  | counter o => exact ((Changes.none s).advanceCounter o).eventsSound k
  | newFrame g => exact k
  | hold g held => exact k
  | order h => exact h.changes.eventsSound k
  | load h => rw [State.eventsSound, h.events]; exact k
  | settleStand n => exact ((Changes.none s).settleStand n).eventsSound k
  | settleGauge g => exact ((Changes.none s).settleGauge g).eventsSound k
  | settleGroup g => exact ((Changes.none s).settleGroup g).eventsSound k
  | settlePath n => exact ((Changes.none s).settlePath n).eventsSound k
  | restart h => exact Nat.zero_le _

theorem powerOn_eventsSound (straps : BitVec 4) : (State.powerOn straps).eventsSound := Nat.zero_le _

theorem kept_eventsSound : Kept State.eventsSound where
  blocks _ _ _ _ e h := by rw [State.eventsSound, e]; exact h
  operation := Operation.eventsSound
  powerOn := powerOn_eventsSound

/-! ### The queue of commands, the node address and RESET (R192) -/

/-- The queue of commands, the node address and the level of RESET are as they were. -/
structure SameInputs (s t : State) : Prop where
  pending : t.pending = s.pending
  nodeAddress : t.nodeAddress = s.nodeAddress
  resetLow : t.resetLow = s.resetLow

theorem SameInputs.trans {s t u : State} (h : SameInputs s t) (k : SameInputs t u) : SameInputs s u :=
  ⟨k.pending.trans h.pending, k.nodeAddress.trans h.nodeAddress, k.resetLow.trans h.resetLow⟩

theorem Change.sameInputs {s t : State} (h : Change s t) : SameInputs s t := by
  cases h with
  | onStand | onGroup | onGauge | onFrame | windows | flags | event => exact ⟨rfl, rfl, rfl⟩
  | standLoad n =>
    unfold releaseStandLoad applyStandLoad
    split <;> constructor <;> simp
  | gaugeLoad g =>
    unfold releaseGaugeLoad applyGaugeLoad
    split <;> constructor <;> simp
  | groupLoad g =>
    unfold releaseGroupLoad applyGroupLoad
    split <;> constructor <;> simp
  | pathLoad n =>
    unfold releasePathLoad applyPathLoad
    split <;> constructor <;> simp

theorem Changes.sameInputs {s t : State} (h : Changes s t) : SameInputs s t := by
  induction h with
  | refl => exact ⟨rfl, rfl, rfl⟩
  | tail _ step ih => exact ih.trans step.sameInputs

theorem Loading.sameInputs {s t : State} (h : Loading s t) : SameInputs s t := by
  cases h with
  | part | standHeld | path | pathHeld | groupHeld | gaugeHeld => exact ⟨rfl, rfl, rfl⟩
  | stand n => constructor <;> simp [applyStandLoad]
  | group g => constructor <;> simp [applyGroupLoad]
  | gauge g => constructor <;> simp [applyGaugeLoad]

theorem Operation.sameInputs {accepting : Bool} {s t : State} (h : Operation accepting s t) : SameInputs s t := by
  cases h with
  | outside _ h _ => exact ⟨h.pending, h.nodeAddress, h.resetLow⟩
  | perform w => exact (Changes.perform w s).sameInputs
  | lose o => exact (Changes.loseAt s o).sameInputs
  | event | responder | newFrame | hold => exact ⟨rfl, rfl, rfl⟩
  | counter o => exact ((Changes.none s).advanceCounter o).sameInputs
  | order h => exact h.changes.sameInputs
  | load h => exact h.sameInputs
  | settleStand n => exact ((Changes.none s).settleStand n).sameInputs
  | settleGauge g => exact ((Changes.none s).settleGauge g).sameInputs
  | settleGroup g => exact ((Changes.none s).settleGroup g).sameInputs
  | settlePath n => exact ((Changes.none s).settlePath n).sameInputs
  | restart h =>
    have rest (u : State) : SameInputs u (({ u with windows := [] } : State).onResponder Responder.restarted) := ⟨rfl, rfl, rfl⟩
    exact (Changes.restartBlocks s).sameInputs.trans (rest _)

theorem Operations.sameInputs {accepting : Bool} {s t : State} (h : Operations accepting s t) : SameInputs s t := by
  induction h with
  | refl => exact ⟨rfl, rfl, rfl⟩
  | tail _ step ih => exact ih.trans step.sameInputs

end Sys2Proof.Machine

namespace Sys2Proof.Proofs

open Sys2Proof.Machine

/-- Settles O56: every step of the tables keeps every table within its ranges. -/
theorem tablesStayInRange : Obligations.TablesStayInRange := fun _ _ h e => kept_tablesSound.step h e

/-- Settles O57: every step of the tables keeps the output fields of different tables apart. -/
theorem fieldsStayApart : Obligations.FieldsStayApart := fun _ _ h e => kept_placementSound.step h e

/-- Settles O55: what taking an event does by the queue's room, and the bound of 32 through every operation. -/
theorem eventQueue : Obligations.EventQueue := by
  refine ⟨fun s k a b d => ?_, fun c s t h e => kept_eventsSound.exec c h e⟩
  have cycle : s.cycleNow = match s.port.last with | some h => h.cycle | none => 0 := by
    unfold State.cycleNow; cases s.port.last <;> rfl
  have time : s.now = match s.port.last with | some h => h.time | none => 0 := by
    unfold State.now; cases s.port.last <;> rfl
  have empty : s.responder.events.isEmpty = decide (s.responder.events = []) := by
    cases s.responder.events <;> rfl
  simp only [State.takeEvent, State.onResponder, Responder.append, Config.eventCapacity, cycle, time, empty, maskBit, bitOf]
  split
  · rw [if_neg (by omega)]
  · rw [if_pos (by omega)] <;> rfl

/-- Settles O2: every operation keeps the queue of commands, the node address and the level of RESET. -/
theorem everyCommandCompletes : Obligations.EveryCommandCompletes := by
  intro c s
  by_cases assert : c = .resetAssert
  · subst assert
    exact ⟨_, rfl, rfl, fun _ => rfl, fun h => absurd rfl h⟩
  by_cases release : ∃ x, c = .resetRelease x
  · obtain ⟨x, rfl⟩ := release
    exact ⟨_, rfl, rfl, fun h => absurd rfl (h x), fun _ h => absurd rfl (h x)⟩
  · obtain ⟨t, run, chain⟩ := exec_operations (accepting := true) c s assert (fun x h => release ⟨x, h⟩) fun _ _ _ => rfl
    have same := chain.sameInputs
    exact ⟨t, run, same.pending, fun _ => same.nodeAddress, fun _ _ => same.resetLow⟩

/-- Settles O1: a step is exec of the command at the front of the queue. -/
theorem stepRunsFront : Obligations.StepRunsFront := by
  refine fun s => ⟨fun empty => by simp [step, empty], fun c rest front => ?_⟩
  have run : step s = exec c { s with pending := rest } := by simp [step, front]
  obtain ⟨t, completes, queue, -⟩ := everyCommandCompletes c { s with pending := rest }
  exact ⟨run, t, run.trans completes, queue⟩

end Sys2Proof.Proofs
end

section
/-!
PROOFS. The stand orders DISABLE, RESUME, MOUNT and ABORT (R11, R13, R14, R19), the STATE cells of R9's table, and the group orders
(R104).
-/

namespace Sys2Proof.Machine

section

variable (f : Frame) (s : State)

theorem exec_disable : exec (.disable f) s = .next (serve f s (standOrder f 2 fun _ n s => orderDisable n s)) := rfl

theorem exec_resume : exec (.resume f) s = .next (serve f s (standOrder f 2 fun _ n s => orderResume n s)) := rfl

theorem exec_mount : exec (.mount f) s = .next (serve f s (standOrder f 8 fun ws n s => orderMount n (mountValues ws) s)) := rfl

theorem exec_abort : exec (.abort f) s = .next (serve f s (standOrder f 2 fun _ n s => orderAbort n s)) := rfl

end

/-! ### DISABLE (R11) -/

section

variable {s : State} {n : StandNo}

/-- R11: in RANGING the stand leaves its gauge. -/
theorem disableStand_ranging (h : (s.stand n).state = .ranging) :
    disableStand n s = settleGroup (s.groupOf n) (settleStand n ((leaveGauge n s).onStand n Stand.disabled)) := by
  simp only [disableStand, h]

/-- R11, R5: in WAITING the stand leaves the waiting set; the marks that it withdraws are among the items that DISABLE clears. -/
theorem disableStand_waiting (h : (s.stand n).state = .waiting) :
    disableStand n s = settleGroup (s.groupOf n) (settleStand n ((leaveWaiting n s).onStand n Stand.disabled)) := by
  simp only [disableStand, h, withdrawWait, State.onStand_onStand]
  rfl

/-- R11, R5: in ACCELERATING the stand gives back its lock; what stops its new reel is among the items that DISABLE clears. -/
theorem disableStand_accelerating (h : (s.stand n).state = .accelerating) :
    disableStand n s = settleGroup (s.groupOf n) (settleStand n ((giveBackLock n s).onStand n Stand.disabled)) := by
  simp only [disableStand, h, stopNewReel, State.onStand_onStand]
  rfl

/-- R11: in any other state the stand has nothing to leave. -/
theorem disableStand_other (ranging : (s.stand n).state ≠ .ranging) (waiting : (s.stand n).state ≠ .waiting)
    (accelerating : (s.stand n).state ≠ .accelerating) :
    disableStand n s = settleGroup (s.groupOf n) (settleStand n (s.onStand n Stand.disabled)) := by
  unfold disableStand
  split <;> first | rfl | contradiction

/-- R11: every state but OFFLINE and PASTING lets the order through. -/
theorem orderDisable_taken (offline : (s.stand n).state ≠ .offline) (pasting : (s.stand n).state.isPasting = false) :
    orderDisable n s = taken (disableStand n s) := by
  unfold orderDisable
  split
  · next e => exact absurd e offline
  · next e => simp [e, StandState.isPasting] at pasting
  · rfl

/-- R114: a stand whose table names no gauge leaves none. -/
theorem leaveGauge_none (h : gaugeEntry (s.stand n).table = none) : leaveGauge n s = s := by simp only [leaveGauge, h]

end

/-! ### RESUME (R13) -/

/-- R13: the order is taken in PARKED with the web present at the last accepted sample. -/
theorem orderResume_of {s : State} {n : StandNo} {v : StandSample} (held : (s.stand n).monitor.held = some v) (web : v.web = true)
    (parked : (s.stand n).state = .parked) : orderResume n s = taken (s.onStand n Stand.resumed) := by
  have present : (s.stand n).webHeld = true := by simpa [Stand.webHeld, held] using web
  exact if_pos ⟨parked, present⟩

/-- R13: without an accepted sample that shows the web present the order is refused. -/
theorem orderResume_refused {s : State} {n : StandNo} (h : (s.stand n).state ≠ .parked ∨ (s.stand n).monitor.held = none ∨
    ∃ v, (s.stand n).monitor.held = some v ∧ v.web = false) : orderResume n s = refuse .state s := by
  refine if_neg fun ⟨parked, web⟩ => ?_
  rcases h with state | unheld | ⟨v, held, noWeb⟩
  · exact state parked
  · simp [Stand.webHeld, unheld] at web
  · simp [Stand.webHeld, held, noWeb] at web

/-- R13, R35, R37, R4: what RESUME leaves of a stand whose held sample shows the web present. -/
theorem Stand.resumed_of_web {st : Stand} {v : StandSample} (held : st.monitor.held = some v) (web : v.web = true) :
    st.resumed =
      { st with
        expiring := some (match st.expiring with
          | some r => { r with lastRevolution := v.revolutions, lastLatched := v.latched }
          | none =>
            { ident := none, caliper := defaultCaliper st.table, origin := .threaded, estimate := none
              lastRevolution := v.revolutions, lastLatched := v.latched, lowReported := false })
        state := match st.newReel with
          | some r => (match r.diameter with | some _ => .ready | none => .loaded)
          | none => .running } := by
  have present : st.webHeld := by simpa [Stand.webHeld, held] using web
  unfold Stand.resumed
  rw [Stand.settled_of_web present]
  cases e : st.expiring <;> simp [Stand.retakeBaseline, threadedReel, held, e]

/-! ### MOUNT (R14) -/

/-- R190: within the request area of a MOUNT the characters of an ident of at most 12 are those of the frame. -/
theorem readIdent_area {k : Nat} (h : k ≤ 12) (slots : List Word) :
    readIdent k ((slots.take 8).drop 5) =
      (List.range k).map fun i => (slotAt slots (5 + i / 4)).extractLsb' (8 * (i % 4)) 8 := by
  refine List.map_congr_left fun i hi => ?_
  have near : 5 + i / 4 < 8 := by have := List.mem_range.1 hi; omega
  have slot : slotAt ((slots.take 8).drop 5) (i / 4) = slotAt (slots.take 8) (5 + i / 4) := by
    simp [slotAt, List.getD_eq_getElem?_getD]
  rw [slot, slotAt_take near]

@[simp] theorem length_readIdent (k : Nat) (ws : List Word) : (readIdent k ws).length = k := by simp [readIdent]

/-- R14: what it means for the values of a MOUNT to lie in their ranges. -/
theorem MountValues.inRange_iff (m : MountValues) :
    m.inRange ↔
      (∀ i, m.ident = some i → 1 ≤ i.length ∧ i.length ≤ 12 ∧ ∀ c ∈ i, 32 ≤ c.toNat ∧ c.toNat ≤ 126) ∧
      (∀ c, m.caliper = some c → 40 ≤ c ∧ c ≤ 200) ∧ (∀ d, m.diameter = some d → 500 ≤ d ∧ d ≤ 15000) := by
  obtain ⟨ident, caliper, diameter⟩ := m
  cases ident <;> cases caliper <;> cases diameter <;> simp [MountValues.inRange, identInRange, and_assoc]

/-- R190: the values of a MOUNT, spelt on the frame's own slots. -/
def mountSpelt (slots : List Word) : MountValues :=
  let w := slotAt slots 2
  { ident :=
      if w.getLsbD 0 then
        some ((List.range (bits w 8 4)).map fun i => (slotAt slots (5 + i / 4)).extractLsb' (8 * (i % 4)) 8)
      else none
    caliper := if w.getLsbD 1 then some (slotAt slots 3).toNat else none
    diameter := if w.getLsbD 2 then some (slotAt slots 4).toNat else none }

/-- R190: the values read from the request area are those that the frame spells, but for an ident too long to lie in it, which is out
of range either way. -/
theorem mountValues_area (slots : List Word) :
    mountValues (slots.take 8) = mountSpelt slots ∨
      (mountValues (slots.take 8)).inRange = false ∧ (mountSpelt slots).inRange = false := by
  by_cases h : bits (slotAt slots 2) 8 4 ≤ 12
  · left
    simp [mountValues, mountSpelt, bitOf, slotAt_take, readIdent_area h]
  · by_cases given : (slotAt slots 2).getLsbD 0 = true
    · right
      have long : ¬bits (slotAt slots 2) 8 4 ≤ 12 := h
      simp [mountValues, mountSpelt, bitOf, slotAt_take, MountValues.inRange, identInRange, given, long]
    · left
      have absent : (slotAt slots 2)[0] = false := by simpa using given
      simp [mountValues, mountSpelt, bitOf, slotAt_take, absent]

/-- R14: MOUNT in an admitting state is judged by the values that the frame spells. -/
theorem orderMount_area {s : State} {n : StandNo} (h : (s.stand n).state.feedsIdle) (slots : List Word) :
    orderMount n (mountValues (slots.take 8)) s =
      if (mountSpelt slots).inRange then taken (mountReel n (mountSpelt slots) s) else refuse .range s := by
  rw [orderMount, if_pos h]
  rcases mountValues_area slots with same | ⟨out, out'⟩
  · rw [same]
  · rw [out, out']
    rfl

/-! ### ABORT (R19) -/

section

variable {s : State} {n : StandNo}

/-- R19, R5: in WAITING the stand withdraws its wait. -/
theorem abortWait_eq :
    abortWait n s =
      settleStand n ((s.onGroup (s.groupOf n) fun g => { g with waiting := g.waiting.set n.val false }).onStand n fun st =>
        { st with state := .ready, urgent := false, forced := false }) := by
  simp only [abortWait, withdrawWait, leaveWaiting, State.onStand_onStand]

/-- R19, R5: in ACCELERATING and ADVANCE the stand gives back its lock and stops its new reel. -/
theorem abortSplice_eq :
    abortSplice n s =
      settleGroup (s.groupOf n) (settleStand n ((giveBackLock n s).onStand n fun st =>
        { st with
          state := .ready, forced := false, rotation := .brake, rotationRef := 0, schedule := none, brushAt := none
          knifeAt := none, arm := if (s.stand n).state = .pasting .advance then .retract else st.arm })) := by
  have stands (f k : Stand → Stand) (h : f (s.stand n) = k (s.stand n)) :
      (giveBackLock n s).onStand n f = (giveBackLock n s).onStand n k := by
    refine State.onStand_congr _ ?_
    simpa [State.stand] using h
  simp only [abortSplice, stopNewReel, State.onStand_onStand]
  exact congrArg _ (congrArg _ (stands _ _ rfl))

end

/-! ### The STATE cells of R9's table -/

/-- R9: each stand order is the row of a rule that refuses with STATE where the table does not allow the order. -/
theorem exec_standOrder {c : Instr} {f : Frame} {len : Nat} (frame : c.serviceFrame = some f) (order : orderLength c = some len) :
    2 ≤ len ∧ ∃ act : List Word → StandNo → State → Answer,
      (∀ s, exec c s = .next (serve f s (standOrder f len act))) ∧
      ∀ ws n s, admits c (s.stand n).state = false → act ws n s = refuse .state s := by
  cases c <;> simp only [orderLength, Option.some.injEq, reduceCtorEq] at order <;> subst order <;>
    obtain rfl := Option.some.inj frame
  case enable => exact ⟨le_rfl, _, exec_enable _, fun _ n s h => if_neg (by simpa [admits] using h)⟩
  case disable =>
    refine ⟨le_rfl, _, exec_disable _, fun _ n s h => ?_⟩
    have barred : (s.stand n).state = .pasting .advance ∨ (s.stand n).state = .pasting .brush ∨ (s.stand n).state = .pasting .cut := by
      simpa [admits, or_iff_not_imp_left] using h
    rcases barred with e | e | e <;> simp only [orderDisable, e]
  case park => exact ⟨le_rfl, _, exec_park _, fun _ n s h => if_neg (mt (StandState.feedsIdle_iff _).1 (by simpa [admits] using h))⟩
  case resume => exact ⟨le_rfl, _, exec_resume _, fun _ n s h => orderResume_refused (.inl (by simpa [admits] using h))⟩
  case mount =>
    exact ⟨by decide, _, exec_mount _, fun _ n s h => if_neg (mt (StandState.feedsIdle_iff _).1 (by simpa [admits] using h))⟩
  case unmount =>
    exact ⟨le_rfl, _, exec_unmount _, fun _ n s h => if_neg (mt (StandState.admitsUnmount_iff _).1 (by simpa [admits] using h))⟩
  case range => exact ⟨le_rfl, _, exec_range _, fun _ n s h => if_neg (by simpa [admits] using h)⟩
  case autoOn => exact ⟨le_rfl, _, exec_autoOn _, fun _ n s h => if_pos (by simpa [admits] using h)⟩
  case autoOff => exact ⟨le_rfl, _, exec_autoOff _, fun _ n s h => if_pos (by simpa [admits] using h)⟩
  case spliceNow => exact ⟨le_rfl, _, exec_spliceNow _, fun _ n s h => if_neg (by simpa [admits] using h)⟩
  case abort =>
    refine ⟨le_rfl, _, exec_abort _, fun _ n s h => ?_⟩
    have barred : (s.stand n).state = .pasting .brush ∨ (s.stand n).state = .pasting .cut := by
      simpa [admits, or_iff_not_imp_left] using h
    rcases barred with e | e <;> simp only [orderAbort, e]
  case clearFault => exact ⟨le_rfl, _, exec_clearFault _, fun _ n s h => if_neg (by simpa [admits] using h)⟩

/-! ### Group orders (R104) -/

/-- R104: a group order for a group in range puts its hold condition. -/
theorem groupOrder_asked {s t : State} {f : Frame} {g : GroupNo} (h : s.asked f 2) (number : bits (slotAt f.slots 1) 0 8 = g.val)
    (held : Bool) : groupOrder f held t = taken (setHold held g t) := by
  rw [groupOrder, withArea_asked h, slotAt_take (by decide), number, groupOfNumber_val]

/-- R97: a HELD group has no stand to grant to. -/
theorem grantee_of_held {s : State} {g : GroupNo} (h : (s.group g).held = true) : s.grantee g = none := by
  simp [State.grantee, h]

end Sys2Proof.Machine

namespace Sys2Proof.Proofs

open Sys2Proof.Machine

/-- Settles O8: the STATE cells, order by order. -/
theorem stateRefusesOrders : Obligations.StateRefusesOrders := by
  intro c f s len n frame order h barred
  obtain ⟨two, act, run, refused⟩ := exec_standOrder frame order
  exact standOrder_refused (run s) h two (refused _ _ _ barred)

/-- Settles O10: DISABLE by the state that the stand leaves. -/
theorem disable : Obligations.Disable := by
  intro f s n h
  refine ⟨fun offline => ?_, fun pasting => ?_, fun notOffline notPasting => ?_⟩
  · exact standOrder_taken (exec_disable f s) h le_rfl (by simp only [orderDisable, offline])
  · refine standOrder_refused (exec_disable f s) h le_rfl ?_
    unfold orderDisable
    split <;> simp_all [StandState.isPasting]
  · rw [standOrder_taken (exec_disable f s) h le_rfl (orderDisable_taken notOffline notPasting)]
    by_cases ranging : (s.stand n).state = .ranging
    · rw [disableStand_ranging ranging]
      cases gauge : gaugeEntry (s.stand n).table with
      | none => simp only [ranging, if_true, leaveGauge_none gauge]; rfl
      | some g => simp only [ranging, if_true, leaveGauge_eq gauge]; rfl
    by_cases waiting : (s.stand n).state = .waiting
    · rw [disableStand_waiting waiting]
      simp only [waiting, if_true, reduceCtorEq, if_false]
      rfl
    by_cases accelerating : (s.stand n).state = .accelerating
    · rw [disableStand_accelerating accelerating, giveBackLock_eq s rfl rfl]
      simp only [accelerating, reduceCtorEq, if_false, true_and]
      rfl
    · rw [disableStand_other ranging waiting accelerating]
      simp only [ranging, waiting, accelerating, if_false, false_and]
      rfl

/-- Settles O12: RESUME by the stand's state and its held sample. -/
theorem resume : Obligations.Resume := by
  intro f s n h
  refine ⟨fun barred => ?_, fun v held web parked => ?_⟩
  · exact standOrder_refused (exec_resume f s) h le_rfl (orderResume_refused barred)
  · have resumed {k : Stand → Stand} (effect : (s.stand n).resumed = k (s.stand n)) :
        exec (.resume f) s = .next ((s.onStand n k).answered f .done []) :=
      standOrder_taken (exec_resume f s) h le_rfl
        ((orderResume_of held web parked).trans (congrArg taken (s.onStand_congr effect)))
    exact resumed (Stand.resumed_of_web held web)

/-- Settles O13: MOUNT by the stand's state, then by the values that the frame spells. -/
theorem mount : Obligations.Mount := by
  intro f s n h
  have fits := (mountSpelt f.slots).inRange_iff
  have admitted (state : (s.stand n).state ∈ [StandState.running, .loaded, .ready]) :=
    orderMount_area ((StandState.feedsIdle_iff _).2 state) f.slots
  refine ⟨fun barred => ?_, fun state out => ?_, fun state within => ?_⟩
  · exact standOrder_refused (exec_mount f s) h (by decide) (if_neg (mt (StandState.feedsIdle_iff _).1 barred))
  · exact standOrder_refused (exec_mount f s) h (by decide) ((admitted state).trans (if_neg (mt fits.1 out)))
  · exact standOrder_taken (exec_mount f s) h (by decide) ((admitted state).trans (if_pos (fits.2 within)))

/-- Settles O17: ABORT by the state and phase that the stand leaves. -/
theorem abort : Obligations.Abort := by
  intro f s n h
  refine ⟨fun barred => ?_, fun idle => ?_, fun waiting => ?_, fun splicing => ?_⟩
  · refine standOrder_refused (exec_abort f s) h le_rfl ?_
    rcases List.mem_pair.1 barred with e | e <;> simp only [orderAbort, e]
  · refine standOrder_taken (exec_abort f s) h le_rfl ?_
    simp only [List.mem_cons, List.not_mem_nil, or_false] at idle
    rcases idle with e | e | e | e | e | e | e <;> simp only [orderAbort, e]
  · rw [standOrder_taken (exec_abort f s) h le_rfl (t := abortWait n s) (by simp only [orderAbort, waiting]), abortWait_eq]
  · have taken : orderAbort n s = taken (abortSplice n s) := by
      rcases List.mem_pair.1 splicing with e | e <;> simp only [orderAbort, e]
    rw [standOrder_taken (exec_abort f s) h le_rfl taken, abortSplice_eq, giveBackLock_eq s rfl rfl]

/-- Settles O19: HOLD and RELEASE put the hold condition, and a HELD group makes no grant. -/
theorem groupOrders : Obligations.GroupOrders := by
  intro f s g
  refine ⟨fun h number => ?_, fun held => ?_⟩
  · obtain ⟨hears, -, -, room, due⟩ := id h
    exact ⟨congrArg Host.Outcome.next (serve_taken hears room due (groupOrder_asked h number true)),
      congrArg Host.Outcome.next (serve_taken hears room due (groupOrder_asked h number false))⟩
  · simp only [perform, considerGrant, grantee_of_held held]

end Sys2Proof.Proofs
end

section
/-!
PROOFS. What arrives at IN and what leaves unanswered (R146, R186, R192), the reply area (R168, R190), the requests refused whatever
the state (R169), and the power-on values (R192).
-/

namespace Sys2Proof.Machine

/-! ### Slots written over a run of slots -/

section

variable {slots ws : List Word} {base : Nat}

/-- Slots written within a run do not change its length. -/
theorem length_writeSlots (h : base + ws.length ≤ slots.length) : (writeSlots slots base ws).length = slots.length := by
  simp [writeSlots]
  omega

/-- A slot that is written holds what is written. -/
theorem slotAt_writeSlots_inside {i : Nat} (h : base ≤ slots.length) (w : i < ws.length) :
    slotAt (writeSlots slots base ws) (base + i) = slotAt ws i := by
  have e : min base slots.length = base := by omega
  simp [slotAt, writeSlots, List.getD_eq_getElem?_getD, List.getElem?_append, w, e]

/-- A slot that is not written holds what it held. -/
theorem slotAt_writeSlots_outside {i : Nat} (h : base + ws.length ≤ slots.length) (out : i < base ∨ base + ws.length ≤ i) :
    slotAt (writeSlots slots base ws) i = slotAt slots i := by
  have e : min base slots.length = base := by omega
  rcases out with below | above
  · have present : i < slots.length := by omega
    simp [slotAt, writeSlots, List.getD_eq_getElem?_getD, List.getElem?_append, below, present, e]
  · have notBelow : ¬i < base := by omega
    have notInside : ¬i - base < ws.length := by omega
    have skip : base + ws.length + (i - base - ws.length) = i := by omega
    simp [slotAt, writeSlots, List.getD_eq_getElem?_getD, List.getElem?_append, notBelow, notInside, skip, e]

end

/-! ### The row of what arrives (R186) -/

/-- R169: the row of a LOAD TABLE is spelt by its frame. -/
theorem loadRow_wf {f : Frame} (h : isService f = true) (kind : requestKind f = some 2) :
    (loadRow f).wf ∧ (loadRow f).serviceFrame = some f := by
  unfold loadRow
  split
  case h_6 a b c d e =>
    refine ⟨?_, rfl⟩
    cases table : tableKind f with
    | none => simp [Instr.wf, unknownToPart, h, kind, table]
    | some k =>
      have above : 4 < k := by
        by_contra below
        interval_cases k <;> simp_all
      simp [Instr.wf, unknownToPart, h, kind, table, above]
  all_goals
    next e => simp [Instr.wf, loadsTable, asks, Instr.serviceFrame, h, kind, e]

/-- R169: the row of a STAND ORDER is spelt by its frame. -/
theorem orderRow_wf {f : Frame} (h : isService f = true) (kind : requestKind f = some 3) :
    (orderRow f).wf ∧ (orderRow f).serviceFrame = some f := by
  unfold orderRow
  split
  case h_8 e =>
    obtain ⟨w, second⟩ : ∃ w, requestParameter f = some w := by
      cases p : requestParameter f <;> simp [orderKind, p] at e ⊢
    have setting : autoSetting f = some (bitOf w 16) := by simp [autoSetting, second]
    cases on : bitOf w 16 <;>
      simp [autoRow, setting, on, Instr.wf, ordersAuto, ordersStand, asks, Instr.serviceFrame, h, kind, e]
  case h_12 =>
    refine ⟨?_, rfl⟩
    cases order : orderKind f with
    | none => simp [Instr.wf, unknownToPart, h, kind, order]
    | some k =>
      have outside : k = 0 ∨ 11 < k := by
        by_contra inside
        have low : 1 ≤ k ∧ k ≤ 11 := by omega
        obtain ⟨low, high⟩ := low
        interval_cases k <;> simp_all
      simp [Instr.wf, unknownToPart, h, kind, order]
      omega
  all_goals
    next e => simp [Instr.wf, ordersStand, asks, Instr.serviceFrame, h, kind, e]

/-- R169: the row of a GROUP ORDER is spelt by its frame. -/
theorem groupOrderRow_wf {f : Frame} (h : isService f = true) (kind : requestKind f = some 4) :
    (groupOrderRow f).wf ∧ (groupOrderRow f).serviceFrame = some f := by
  unfold groupOrderRow
  split
  case h_3 =>
    refine ⟨?_, rfl⟩
    cases order : orderKind f with
    | none => simp [Instr.wf, unknownToPart, h, kind, order]
    | some k =>
      have outside : k = 0 ∨ 2 < k := by
        by_contra inside
        have low : 1 ≤ k ∧ k ≤ 2 := by omega
        obtain ⟨low, high⟩ := low
        interval_cases k <;> simp_all
      simp [Instr.wf, unknownToPart, h, kind, order]
      omega
  all_goals
    next e => simp [Instr.wf, ordersGroup, asks, Instr.serviceFrame, h, kind, e]

/-- R169: the row of a service frame is spelt by its frame. -/
theorem serviceRow_wf {f : Frame} (h : isService f = true) : (serviceRow f).wf ∧ (serviceRow f).serviceFrame = some f := by
  unfold serviceRow
  split
  case h_2 kind => exact loadRow_wf h kind
  case h_3 kind => exact orderRow_wf h kind
  case h_4 kind => exact groupOrderRow_wf h kind
  case h_10 =>
    refine ⟨?_, rfl⟩
    cases kind : requestKind f with
    | none => simp [Instr.wf, unknownToPart, h, kind]
    | some k =>
      have outside : k = 0 ∨ 9 < k := by
        by_contra inside
        have low : 1 ≤ k ∧ k ≤ 9 := by omega
        obtain ⟨low, high⟩ := low
        interval_cases k <;> simp_all
      rcases outside with rfl | above
      · simp [Instr.wf, unknownToPart, h, kind]
      · obtain ⟨x, rfl⟩ := Nat.exists_eq_add_of_lt above
        simp [Instr.wf, unknownToPart, h, kind, show 9 + x + 1 = x + 10 by omega]
  all_goals
    next e => simp [Instr.wf, asks, Instr.serviceFrame, h, e]

/-- A command that brings a service frame brings that frame to IN. -/
theorem frame_of_serviceFrame {c : Instr} {f : Frame} (h : c.serviceFrame = some f) : c.frame = some f := by
  simp [Instr.frame, h]

/-- A cycle frame is no service frame. -/
theorem ne_cycleFrame_of_serviceFrame {c : Instr} {f g : Frame} (h : c.serviceFrame = some f) (p : Plan) : c ≠ .cycleFrame g p := by
  rintro rfl
  simp [Instr.serviceFrame] at h

/-! ### Requests refused whatever the state (R169) -/

section

variable {f : Frame} {s : State}

/-- R169: a request is refused with RANGE for its area, or for what its area holds. -/
theorem withArea_range {len : Nat} {k : List Word → Answer}
    (h : requestLength f ≠ len ∨ k (f.slots.take len) = refuse .range s) : withArea f len s k = refuse .range s := by
  by_cases bad : requestLength f ≠ len ∨ slotCount f < requestLength f
  · exact withArea_bad bad s k
  · have same : requestLength f = len := by omega
    have inside : requestLength f ≤ slotCount f := by omega
    have length : (f.slots.take len).length = len := by
      rw [← same]
      exact List.length_take_of_le inside
    have area : requestArea f = some (f.slots.take len) := by
      rw [← same]
      exact if_pos inside
    simp only [withArea, area, length, if_true]
    exact h.resolve_left (by simp [same])

/-- R169: a stand order is refused with RANGE for its area, or for a stand outside 0 to 7. -/
theorem standOrder_range {len : Nat} {act : List Word → StandNo → State → Answer} (two : 2 ≤ len)
    (h : requestLength f ≠ len ∨ 8 ≤ bits (slotAt f.slots 1) 0 4) : standOrder f len act s = refuse .range s := by
  refine withArea_range (h.imp_right fun out => ?_)
  rw [slotAt_take (by omega), standOf_eq_none.2 out]

/-- R169: a load is refused with RANGE for its area, or for a table that its rule refuses. -/
theorem loadRequest_range {act : Nat → Load → Answer}
    (h : requestLength f ≠ 2 + runCount (slotAt f.slots 1) ∨ ∀ l, act (bits (slotAt f.slots 1) 8 4) l = refuse .range s) :
    loadRequest f s act = refuse .range s := by
  unfold loadRequest requestArea
  by_cases inside : requestLength f ≤ slotCount f
  · have length : (f.slots.take (requestLength f)).length = requestLength f := List.length_take_of_le inside
    simp only [inside, if_true, length]
    by_cases two : 2 ≤ requestLength f
    · rw [slotAt_take (by omega)]
      split
      · next e => exact h.resolve_left (by simp [e.2]) _
      · rfl
    · exact if_neg (by omega)
  · simp [inside]

/-- R171: a table read whose table number lies outside its range is refused with RANGE. -/
theorem readTable_range {kind inst first count : Nat} (h : (kind = 0 ∧ inst ≠ 0) ∨ ((kind = 1 ∨ kind = 2) ∧ 8 ≤ inst) ∨
    ((kind = 3 ∨ kind = 4) ∧ 4 ≤ inst)) : readTable kind inst first count s = refuse .range s := by
  rcases h with ⟨rfl, out⟩ | ⟨rfl | rfl, out⟩ | ⟨rfl | rfl, out⟩
  · exact if_neg out
  · simp only [readTable, standOf_eq_none.2 out]
  · simp only [readTable, standOf_eq_none.2 out]
  · simp only [readTable, groupOfNumber_eq_none.2 out]
  · simp only [readTable, groupOfNumber_eq_none.2 out]

/-- R172: a table kind above 4 is unknown. -/
theorem readTable_unknown {kind inst first count : Nat} (h : 4 < kind) : readTable kind inst first count s = refuse .unknown s := by
  obtain ⟨k, rfl⟩ := Nat.exists_eq_add_of_lt h
  simp [readTable, show 4 + k + 1 = k + 5 by omega]

end

/-- R168, R169: a service row is `serve` of its own rule, which refuses with RANGE an area that does not match its kind and a number
outside its range. -/
theorem exec_serve {c : Instr} {f : Frame} (frame : c.serviceFrame = some f) :
    ∃ act : State → Answer, (∀ s, exec c s = .next (serve f s act)) ∧
      ∀ len s, areaLength c = some len → (requestLength f ≠ len ∨ numbersFit c = false) → act s = refuse .range s := by
  cases c <;> simp only [Instr.serviceFrame, Option.some.injEq, reduceCtorEq] at frame <;> subst frame <;>
    refine ⟨_, fun s => rfl, fun len s length bad => ?_⟩ <;> simp only [areaLength, Option.some.injEq, reduceCtorEq] at length <;>
    subst length
  case readTable =>
    refine withArea_range (bad.imp_right fun out => ?_)
    simp only [slotAt_take (show 1 < 2 by decide)]
    refine readTable_range ?_
    simp only [numbersFit, Bool.or_eq_false_iff, Bool.and_eq_false_iff, beq_eq_false_iff_ne, decide_eq_false_iff_not] at out
    omega
  case loadTablePart =>
    exact loadRequest_range (bad.imp_right fun out _ => if_neg (by simpa [numbersFit] using out))
  case loadTableStand =>
    refine loadRequest_range (bad.imp_right fun out _ => ?_)
    rw [standOf_eq_none.2 (by simpa [numbersFit] using out)]
  case loadTablePath =>
    refine loadRequest_range (bad.imp_right fun out _ => ?_)
    rw [standOf_eq_none.2 (by simpa [numbersFit] using out)]
  case loadTableGroup =>
    refine loadRequest_range (bad.imp_right fun out _ => ?_)
    rw [groupOfNumber_eq_none.2 (by simpa [numbersFit] using out)]
  case loadTableGauge =>
    refine loadRequest_range (bad.imp_right fun out _ => ?_)
    rw [groupOfNumber_eq_none.2 (by simpa [numbersFit] using out)]
  case groupOrderHold | groupOrderRelease | readTracker =>
    refine withArea_range (bad.imp_right fun out => ?_)
    rw [slotAt_take (by decide), groupOfNumber_eq_none.2 (by simpa [numbersFit] using out)]
  case readStand =>
    refine withArea_range (bad.imp_right fun out => ?_)
    rw [slotAt_take (by decide), standOf_eq_none.2 (by simpa [numbersFit] using out)]
  case takeEvents =>
    refine withArea_range (bad.imp_right fun out => ?_)
    simp only [slotAt_take (show 1 < 2 by decide)]
    exact if_neg (by simpa [numbersFit] using out)
  case clearAttention | restartPart => exact withArea_range (bad.imp_right fun out => by simp [numbersFit] at out)
  all_goals exact standOrder_range (by decide) (bad.imp_right fun out => by simpa [numbersFit] using out)

/-- R168: where the reply does not fit its area the request is refused with RANGE, as where its own rule refuses it so. -/
theorem serve_range {f : Frame} {s : State} (h : s.hears f) (r : replyRoom f ≠ 0) (d : s.frame.due = []) {act : State → Answer}
    (short : act s = refuse .range s ∨ replyRoom f < 1 + (act s).payload.length) : serve f s act = s.answered f .range [] := by
  rcases short with refused | short
  · exact serve_refuse h r d refused
  · rw [serve_hears h r d, if_pos short]

/-! ### The lengths of replies (R190) -/

theorem length_identSlots (id : Option Ident) : (identSlots id).length = 3 := rfl

theorem length_newReelSlots (r : Option NewReel) : (newReelSlots r).length = 8 := by cases r <;> rfl

theorem length_expiringReelSlots (r : Option ExpiringReel) : (expiringReelSlots r).length = 8 := by cases r <;> rfl

theorem length_standRecord (st : Stand) : (standRecord st).length = 17 := by
  simp [standRecord, length_newReelSlots, length_expiringReelSlots]

theorem length_entrySlots (e : Entry) : (entrySlots e).length = 6 := rfl

theorem length_trackerRecord (g : Group) : (trackerRecord g).length = 1 + 6 * g.tracker.length := by
  simp [trackerRecord, length_entrySlots]
  omega

/-- R190: a READ TABLE that is answered DONE holds its heading and the run. -/
theorem tableAnswer_length {k : Nat} (t : Vector Word k) (loaded pending : Bool) (first count : Nat) (s : State) :
    tableAnswer t loaded pending first count s = refuse .range s ∨
      (tableAnswer t loaded pending first count s).payload.length = 1 + count := by
  unfold tableAnswer
  split
  · next inside =>
    right
    simp [runOf]
    omega
  · exact .inl rfl

/-- R171: a READ TABLE of a known table kind is refused with RANGE, or its reply holds its heading and the run. -/
theorem readTable_length {kind inst first count : Nat} (h : kind ≤ 4) (s : State) :
    readTable kind inst first count s = refuse .range s ∨ (readTable kind inst first count s).payload.length = 1 + count := by
  interval_cases kind <;> simp only [readTable] <;> split <;>
    first
      | exact tableAnswer_length ..
      | exact .inl rfl

/-! ### Rows that no frame brings -/

/-- R192: while RESET is low a row that no frame brings, but for the RESET rows, changes nothing. -/
theorem exec_low {c : Instr} {s : State} (low : s.resetLow = true) (assert : c ≠ .resetAssert) (release : ∀ x, c ≠ .resetRelease x)
    (frame : c.frame = none) : exec c s = .next s := by
  cases c <;> simp only [Instr.frame, Instr.serviceFrame, reduceCtorEq] at frame
  case ringLossTimerExpiry => simp [exec, execRingLossTimerExpiry, low]
  case resetAssert => exact absurd rfl assert
  case resetRelease x => exact absurd rfl (release x)
  case standTablePendingApply | gaugeTablePendingApply | pathTablePendingApply | groupTablePendingApply =>
    exact congrArg Host.Outcome.next (if_pos low)
  all_goals exact congrArg Host.Outcome.next (comesAbout_idle (.inl low) _)

/-- R186, R192: a frame whose part does not hear it leaves as it arrived. -/
theorem exec_serve_passes {c : Instr} {f : Frame} {s : State} (frame : c.serviceFrame = some f)
    (h : s.hears f = false ∨ replyRoom f = 0) : exec c s = .next { s with out := some f } := by
  obtain ⟨act, run, -⟩ := exec_serve frame
  rw [run, serve_passes h]

end Sys2Proof.Machine

namespace Sys2Proof.Proofs

open Sys2Proof.Machine

/-- Settles O3: by the kind of the frame, and for a service frame by its request. -/
theorem arrivalNamesItsRow : Obligations.ArrivalNamesItsRow := by
  intro node plan f
  by_cases cycle : frameKind f = 1
  · have row : arrival node plan f = .cycleFrame f plan := if_pos cycle
    have kind : bits f.head0 24 8 = 1 := cycle
    simp [row, Instr.wf, Instr.frame, Instr.serviceFrame, cycle, kind]
  by_cases service : isService f ∧ node ≠ 0 ∧ destination f = node
  · have row : arrival node plan f = serviceRow f := (if_neg cycle).trans (if_pos service)
    have kind : bits f.head0 24 8 = 2 := by simpa [isService, frameKind] using service.1
    obtain ⟨wf, frame⟩ := serviceRow_wf service.1
    rw [row]
    refine ⟨wf, frame_of_serviceFrame frame, ⟨fun ⟨p, e⟩ => absurd e (ne_cycleFrame_of_serviceFrame frame p), fun e => ?_⟩,
      ⟨fun _ => ⟨kind, service.2⟩, fun _ => frame⟩⟩
    exact absurd e cycle
  · have row : arrival node plan f = .foreignFrame f := (if_neg cycle).trans (if_neg service)
    have notKind : bits f.head0 24 8 ≠ 1 := cycle
    have other : ¬(bits f.head0 24 8 = 2 ∧ node ≠ 0 ∧ f.head0.extractLsb' 16 4 = node) := by
      simpa [isService, frameKind, destination] using service
    rw [row]
    refine ⟨by simpa [Instr.wf] using cycle, rfl, ⟨fun ⟨p, e⟩ => by simp at e, fun e => absurd e notKind⟩,
      ⟨fun e => by simp [Instr.serviceFrame] at e, fun e => absurd e other⟩⟩

/-- Settles O4: the release puts the power-on state, with the straps and the queue that waits. -/
theorem resetReleaseGivesPowerOn : Obligations.ResetReleaseGivesPowerOn := by
  intro straps s
  refine ⟨_, rfl, rfl, rfl, rfl, rfl, rfl, rfl, rfl, rfl, rfl, rfl, rfl, rfl, rfl, rfl, rfl, rfl, rfl, fun n => ?_, fun g => ?_⟩
  · have stand : ({ State.powerOn straps with pending := s.pending } : State).stand n = Stand.powerOn := State.powerOn_stand straps n
    have path : ({ State.powerOn straps with pending := s.pending } : State).path n = PathTable.powerOn := State.powerOn_path straps n
    have flags : ({ State.powerOn straps with pending := s.pending } : State).flagsOf n = ⟨false, false, false, false⟩ := by
      simp [State.flagsOf, State.powerOn, Responder.powerOn]
    rw [stand, path, flags]
    decide
  · have group : ({ State.powerOn straps with pending := s.pending } : State).group g = Group.powerOn := State.powerOn_group straps g
    have gauge : ({ State.powerOn straps with pending := s.pending } : State).gauge g = Gauge.powerOn := State.powerOn_gauge straps g
    rw [group, gauge]
    refine ⟨rfl, rfl, rfl, fun n => ?_, by decide⟩
    simp [Group.powerOn]

/-- Settles O5: each frame that is not answered is emitted as it is, and RESET low leaves every row without effect. -/
theorem framesPassUnchanged : Obligations.FramesPassUnchanged := by
  intro c s
  refine ⟨rfl, fun low assert release => ?_, fun f => rfl, fun f frame passes => exec_serve_passes frame ?_⟩
  · cases service : c.serviceFrame with
    | some f =>
      rw [exec_serve_passes service (.inl (by simp [State.hears, low])), frame_of_serviceFrame service]
    | none =>
      cases frame : c.frame with
      | none => exact exec_low low assert release frame
      | some f =>
        cases c <;> simp only [Instr.frame, Instr.serviceFrame, Option.some.injEq, reduceCtorEq] at frame service <;> subst frame
        · simp [exec, execCycleFrame, low, emit]
        · rfl
  · rcases passes with noNode | other | noReply | noRoom
    · exact .inl (by simp [State.hears, noNode])
    · exact .inl (by simp [State.hears, other])
    · exact .inr (by simp [replyRoom, noReply])
    · exact .inr (by simp [replyRoom]; omega)

/-- Settles O6: the codes, and the slots of a frame that carries a reply. -/
theorem replyFollowsRequestArea : Obligations.ReplyFollowsRequestArea := by
  refine ⟨by decide, fun f c payload room => ?_⟩
  have inside : requestLength f + (statusSlot c :: payload).length ≤ f.slots.length := by
    simp only [replyRoom, slotCount] at room
    rw [List.length_cons]
    omega
  have written (i : Nat) (h : i < (statusSlot c :: payload).length) :
      slotAt (writeReply f (statusSlot c :: payload)).slots (requestLength f + i) = slotAt (statusSlot c :: payload) i :=
    slotAt_writeSlots_inside (by omega) h
  refine ⟨rfl, rfl, rfl, length_writeSlots inside, ?_, fun i h => ?_, fun i out => ?_⟩
  · rw [← Nat.add_zero (requestLength f), written 0 (by simp)]
    simp [statusSlot, place]
  · rw [Nat.add_assoc, Nat.add_comm 1 i, written (i + 1) (by simpa using h), slotAt_cons_succ]
  · exact slotAt_writeSlots_outside inside (by rw [List.length_cons]; omega)

/-- Settles O7: a bad area or number by the row's own rule, a short reply area by R168, an unknown kind by the kind's own rule. -/
theorem requestsRefused : Obligations.RequestsRefused := by
  refine ⟨fun c f s len frame hears room due length bad => ?_, fun f s asked => ?_, fun f s len asked one => ⟨fun kinds => ?_, fun two above => ?_⟩⟩
  · obtain ⟨act, run, refused⟩ := exec_serve frame
    rw [run, serve_refuse hears room due (refused len s length bad)]
  · obtain ⟨hears, -, -, room, due⟩ := id asked
    have second := slotAt_take (ws := f.slots) (show 1 < 2 by decide)
    refine ⟨fun short number => ?_, fun g number short => ?_, fun low high short => ?_, fun short kind => ?_⟩ <;>
      refine congrArg Host.Outcome.next (serve_range hears room due ?_) <;> rw [withArea_asked asked]
    · have named : standOf (bits (slotAt f.slots 1) 0 8) = some ⟨_, number⟩ := dif_pos number
      simp only [second, named, length_standRecord]
      omega
    · simp only [second, number, groupOfNumber_val, length_trackerRecord]
      omega
    · simp only [second, low, high, and_self, if_true]
      right
      simp [takeRecords, length_eventSlots]
      omega
    · simp only [second]
      refine (readTable_length kind s).imp_right fun length => ?_
      rw [length]
      omega
  · obtain ⟨hears, -, inside, room, due⟩ := id asked
    have first : requestKind f = some (bits (slotAt f.slots 0) 0 8) := by
      have present : 0 < f.slots.length := by simp only [slotCount] at inside; omega
      simp [requestKind, requestArea_asked asked, slotAt, List.getD_eq_getElem?_getD, present, show 0 < len by omega]
    refine congrArg Host.Outcome.next (serve_refuse hears room due ?_)
    unfold unknownAnswer
    rw [requestArea_asked asked, first]
    rcases kinds with outside | ⟨load, two, area, table⟩ | ⟨order, two, stand, kind⟩ | ⟨order, two, group, kind⟩
    · split
      · next e => simp at e; omega
      · next e => simp at e; omega
      · next e => simp at e; omega
      · rfl
      · next e => simp at e
    · simp only [load, length_take_asked asked, slotAt_take (show 1 < len by omega)]
      exact if_pos ⟨two, area⟩
    · simp only [order, length_take_asked asked, slotAt_take (show 1 < len by omega)]
      exact if_pos ⟨two, stand⟩
    · simp only [order, length_take_asked asked, slotAt_take (show 1 < len by omega)]
      exact if_pos ⟨two, group⟩
  · subst two
    obtain ⟨hears, -, -, room, due⟩ := id asked
    refine congrArg Host.Outcome.next (serve_refuse hears room due ?_)
    rw [withArea_asked asked]
    simp only [slotAt_take (show 1 < 2 by decide)]
    exact readTable_unknown above

end Sys2Proof.Proofs
end

section
/-!
PROOFS. The replies of READ TABLE, READ STAND and READ TRACKER (R171, R174, R175): the layouts of R190, record by record, then one
statement a request.
-/

namespace Sys2Proof.Machine

/-! ### Items and characters -/

/-- R184: a number placed at bit 0 is the slot that holds it. -/
theorem place_zero (v : Nat) : place v 0 = BitVec.ofNat 32 v := by simp [place]

/-- R184: four characters of a slot are read back, each at its place. -/
theorem extract_chars (c : Nat → BitVec 8) {j : Nat} (h : j < 4) :
    (place (c 0).toNat 0 ||| place (c 1).toNat 8 ||| place (c 2).toNat 16 ||| place (c 3).toNat 24).extractLsb' (8 * j) 8 = c j := by
  have small (k : Nat) : (c k).toNat < 256 ∧ (c k).toNat < 65536 ∧ (c k).toNat < 16777216 := by
    have := (c k).isLt
    omega
  refine BitVec.eq_of_toNat_eq ?_
  change bits _ (8 * j) 8 = _
  interval_cases j <;> simp [bits_place, bits_place_below, bits_place_above, small]

/-- R184: character `i` of an ident stands in slot `i / 4` of its three, and is 0 beyond the ident's length. -/
theorem extract_identSlots (id : Option Ident) {i : Nat} (h : i < 12) :
    (slotAt (identSlots id) (i / 4)).extractLsb' (8 * (i % 4)) 8 = (id.getD []).getD i 0 := by
  have slot (k : Nat) (hk : k < 3) : (slotAt (identSlots id) k).extractLsb' (8 * (i % 4)) 8 = (id.getD []).getD (4 * k + i % 4) 0 := by
    have := extract_chars (fun j => (id.getD []).getD (4 * k + j) 0) (Nat.mod_lt i (show 4 > 0 by decide))
    interval_cases k <;> exact this
  rw [slot _ (by omega), Nat.div_add_mod]

/-! ### READ TABLE (R171) -/

/-- R171, R190: what READ TABLE answers from a table of `k` entries. -/
theorem exec_readTable_answers {f : Frame} {s : State} {k first count : Nat} {t : Vector Word k} {loaded pending : Bool}
    (asked : s.asked f 2) (few : count ≤ 16) (fits : 2 + count ≤ replyRoom f)
    (act : readTable (bits (slotAt f.slots 1) 0 8) (bits (slotAt f.slots 1) 8 4) (bits (slotAt f.slots 1) 16 8)
      (runCount (slotAt f.slots 1)) s = tableAnswer t loaded pending first count s) :
    (t.toList.length < first + count → exec (.readTable f) s = .next (s.answered f .range [])) ∧
    (first + count ≤ t.toList.length → ∃ heading values,
      exec (.readTable f) s = .next (s.answered f .done (heading :: values)) ∧
      heading.getLsbD 0 = loaded ∧ heading.getLsbD 1 = pending ∧ values.length = count ∧
      ∀ i, i < count → values[i]? = t.toList[first + i]?) := by
  obtain ⟨hears, -, -, room, due⟩ := id asked
  have answer : withArea f 2 s (fun ws =>
      readTable (bits (slotAt ws 1) 0 8) (bits (slotAt ws 1) 8 4) (bits (slotAt ws 1) 16 8) (runCount (slotAt ws 1)) s) =
      tableAnswer t loaded pending first count s := by
    rw [withArea_asked asked]
    simpa only [slotAt_take (show 1 < 2 by decide)] using act
  refine ⟨fun past => ?_, fun inside => ?_⟩
  · have past : ¬(count ≤ 16 ∧ first + count ≤ k) := by simp at past; omega
    exact congrArg Host.Outcome.next (serve_refuse hears room due (answer.trans (if_neg past)))
  · have inside : first + count ≤ k := by simpa using inside
    have length : (runOf t first count).length = count := by simp [runOf]; omega
    refine ⟨placeBit loaded 0 ||| placeBit pending 1, runOf t first count, ?_, ?_, ?_, length, fun i h => ?_⟩
    · refine congrArg Host.Outcome.next (serve_answers hears room due (a :=
        { status := .done, payload := (placeBit loaded 0 ||| placeBit pending 1) :: runOf t first count, state := s }) ?_ ?_)
      · exact answer.trans (if_pos ⟨few, inside⟩)
      simp only [List.length_cons, length]
      omega
    · change bitOf _ 0 = _
      simp [bitOf_placeBit]
    · change bitOf _ 1 = _
      simp [bitOf_placeBit]
    · simp [runOf, h]

/-! ### READ STAND (R174) -/

section

variable (st : Stand)

theorem slotAt_standRecord_zero :
    slotAt (standRecord st) 0 =
      place (stateCode st.state) 0 ||| place (phaseCode st.state) 4 ||| place (faultItem st.faultCode) 8
        ||| placeBit st.auto 16 ||| placeBit st.urgent 17 ||| placeBit st.forced 18 ||| placeBit st.monitor.stale 19 := rfl

/-- R190: slots 2 to 9 of the reply are the new-reel record. -/
theorem slotAt_standRecord_newReel {i : Nat} (h : i < 8) : slotAt (standRecord st) (1 + i) = slotAt (newReelSlots st.newReel) i := by
  rw [Nat.add_comm]
  have inside : i < (newReelSlots st.newReel).length := by rw [length_newReelSlots]; exact h
  simp [standRecord, slotAt, List.getD_eq_getElem?_getD, List.getElem?_append, inside]

/-- R190: slots 10 to 17 of the reply are the expiring-reel record. -/
theorem slotAt_standRecord_expiring (i : Nat) : slotAt (standRecord st) (9 + i) = slotAt (expiringReelSlots st.expiring) i := by
  have skip : 9 + i = 8 + i + 1 := by omega
  rw [skip]
  have length := length_newReelSlots st.newReel
  have past : ¬8 + i < (newReelSlots st.newReel).length := by omega
  simp [standRecord, slotAt, List.getD_eq_getElem?_getD, List.getElem?_append, length]

theorem stateCode_lt (x : StandState) : stateCode x < 16 := by
  cases x with
  | pasting p => cases p <;> decide
  | _ => decide

theorem phaseCode_lt (x : StandState) : phaseCode x < 4 := by
  cases x with
  | pasting p => cases p <;> decide
  | _ => decide

theorem faultItem_lt (c : Option FaultCode) : faultItem c < 16 := by
  cases c with
  | none => decide
  | some c => cases c <;> decide

/-- R190: slot 1 of the reply, item by item. -/
theorem standRecord_summary :
    bits (slotAt (standRecord st) 0) 0 4 = stateCode st.state ∧ bits (slotAt (standRecord st) 0) 4 2 = phaseCode st.state ∧
    bits (slotAt (standRecord st) 0) 8 4 = faultItem st.faultCode ∧ bitOf (slotAt (standRecord st) 0) 16 = st.auto ∧
    bitOf (slotAt (standRecord st) 0) 17 = st.urgent ∧ bitOf (slotAt (standRecord st) 0) 18 = st.forced ∧
    bitOf (slotAt (standRecord st) 0) 19 = st.monitor.stale := by
  have a := stateCode_lt st.state
  have b := phaseCode_lt st.state
  have c := faultItem_lt st.faultCode
  have wide (m : Nat) (h : 4 ≤ m) : stateCode st.state < 2 ^ m ∧ phaseCode st.state < 2 ^ m ∧ faultItem st.faultCode < 2 ^ m := by
    have : 2 ^ 4 ≤ 2 ^ m := Nat.pow_le_pow_right (by decide) h
    omega
  rw [slotAt_standRecord_zero]
  refine ⟨?_, ?_, ?_, ?_, ?_, ?_, ?_⟩
  · simp [bits_place, bits_place_below, bits_placeBit, a]
  · simp [bits_place, bits_place_below, bits_placeBit, bits_place_above (lo := 0) (l := 4) (wide 4 le_rfl).1, b]
  · simp [bits_place, bits_placeBit, bits_place_above (lo := 0) (l := 8) (wide 8 (by decide)).1,
      bits_place_above (lo := 4) (l := 8) (wide 4 le_rfl).2.1, c]
  · simp [bitOf_placeBit, bitOf_place_above (lo := 0) (i := 16) (wide 16 (by decide)).1,
      bitOf_place_above (lo := 4) (i := 16) (wide 12 (by decide)).2.1, bitOf_place_above (lo := 8) (i := 16) (wide 8 (by decide)).2.2]
  · simp [bitOf_placeBit, bitOf_place_above (lo := 0) (i := 17) (wide 17 (by decide)).1,
      bitOf_place_above (lo := 4) (i := 17) (wide 13 (by decide)).2.1, bitOf_place_above (lo := 8) (i := 17) (wide 9 (by decide)).2.2]
  · simp [bitOf_placeBit, bitOf_place_above (lo := 0) (i := 18) (wide 18 (by decide)).1,
      bitOf_place_above (lo := 4) (i := 18) (wide 14 (by decide)).2.1, bitOf_place_above (lo := 8) (i := 18) (wide 10 (by decide)).2.2]
  · simp [bitOf_placeBit, bitOf_place_above (lo := 0) (i := 19) (wide 19 (by decide)).1,
      bitOf_place_above (lo := 4) (i := 19) (wide 15 (by decide)).2.1, bitOf_place_above (lo := 8) (i := 19) (wide 11 (by decide)).2.2]

end

/-- R190: an absent record reads as 0 in every slot. -/
theorem slotAt_absent (i : Nat) : slotAt [0, 0, 0, 0, 0, 0, 0, 0] i = 0 := by
  by_cases h : i < 8
  · interval_cases i <;> rfl
  · have past : 8 ≤ i := by omega
    simp [slotAt, List.getD_eq_getElem?_getD, past]

/-- R190: the heading of a reel's record, five yes or no items and the length of its ident. -/
def reelHeading (ident : Option Ident) (b c d e : Bool) : Word :=
  placeBit true 0 ||| placeBit ident.isSome 1 ||| placeBit b 2 ||| placeBit c 3 ||| placeBit d 4 ||| placeBit e 5
    ||| place (identLength ident) 8

theorem reelHeading_items (ident : Option Ident) (b c d e : Bool) :
    bitOf (reelHeading ident b c d e) 0 = true ∧ bitOf (reelHeading ident b c d e) 1 = ident.isSome ∧
    bitOf (reelHeading ident b c d e) 2 = b ∧ bitOf (reelHeading ident b c d e) 3 = c ∧
    bitOf (reelHeading ident b c d e) 4 = d ∧ bitOf (reelHeading ident b c d e) 5 = e ∧
    ((ident.getD []).length < 16 → bits (reelHeading ident b c d e) 8 4 = (ident.getD []).length) := by
  refine ⟨?_, ?_, ?_, ?_, ?_, ?_, fun short => ?_⟩
  all_goals unfold reelHeading
  · simp [bitOf_placeBit, bitOf_place_below]
  · simp [bitOf_placeBit, bitOf_place_below]
  · simp [bitOf_placeBit, bitOf_place_below]
  · simp [bitOf_placeBit, bitOf_place_below]
  · simp [bitOf_placeBit, bitOf_place_below]
  · simp [bitOf_placeBit, bitOf_place_below]
  · simp [bits_placeBit, bits_place, identLength, short]

/-- R190: the new-reel record's heading. -/
theorem newReelSlots_heading (r : NewReel) :
    slotAt (newReelSlots (some r)) 0 =
      reelHeading r.ident r.diameter.isSome (r.diameter.map (·.source) == some .gauge) r.mark.isSome false := by
  simp [newReelSlots, reelHeading, placeBit]

/-- R190: the expiring-reel record's heading. -/
theorem expiringReelSlots_heading (r : ExpiringReel) :
    slotAt (expiringReelSlots (some r)) 0 =
      reelHeading r.ident (r.origin == .spliced) r.estimate.isSome (r.estimate.map (·.time) == some .unbounded) r.lowReported :=
  rfl

/-- R190: the ident of a reel's record is its last three slots. -/
theorem slotAt_ident (a b c d e : Word) (id : Option Ident) (k : Nat) :
    slotAt ([a, b, c, d, e] ++ identSlots id) (5 + k) = slotAt (identSlots id) k := by
  simp [slotAt, List.getD_eq_getElem?_getD, Nat.add_comm 5 k]

/-- R190: the items of a new-reel record beyond its heading. -/
theorem newReelSlots_items (r : NewReel) :
    slotAt (newReelSlots (some r)) 1 = BitVec.ofNat 32 r.caliper ∧
    slotAt (newReelSlots (some r)) 2 = BitVec.ofNat 32 ((r.diameter.map (·.value)).getD 0) ∧
    slotAt (newReelSlots (some r)) 3 = (r.mark.getD 0).setWidth 32 ∧ slotAt (newReelSlots (some r)) 4 = r.mountTime ∧
    ∀ i, i < 12 → (slotAt (newReelSlots (some r)) (5 + i / 4)).extractLsb' (8 * (i % 4)) 8 = (r.ident.getD []).getD i 0 := by
  refine ⟨place_zero _, place_zero _, ?_, rfl, fun i h => ?_⟩
  · change place (r.mark.getD 0).toNat 0 = _
    rw [place_zero, BitVec.ofNat_toNat]
  · rw [← extract_identSlots r.ident h]
    exact congrArg (fun w : Word => w.extractLsb' (8 * (i % 4)) 8) (slotAt_ident ..)

/-- R190: the items of an expiring-reel record beyond its heading. -/
theorem expiringReelSlots_items (r : ExpiringReel) :
    slotAt (expiringReelSlots (some r)) 1 = BitVec.ofNat 32 r.caliper ∧
    slotAt (expiringReelSlots (some r)) 2 = BitVec.ofNat 32 ((r.estimate.map (·.diameter)).getD 0) ∧
    slotAt (expiringReelSlots (some r)) 3 = BitVec.ofNat 32 ((r.estimate.map (·.length)).getD 0) ∧
    slotAt (expiringReelSlots (some r)) 4 = BitVec.ofNat 32 ((r.estimate.map fun e => remainingTimeItem e.time).getD 0) ∧
    ∀ i, i < 12 → (slotAt (expiringReelSlots (some r)) (5 + i / 4)).extractLsb' (8 * (i % 4)) 8 = (r.ident.getD []).getD i 0 := by
  refine ⟨place_zero _, place_zero _, place_zero _, place_zero _, fun i h => ?_⟩
  rw [← extract_identSlots r.ident h]
  exact congrArg (fun w : Word => w.extractLsb' (8 * (i % 4)) 8) (slotAt_ident ..)

/-! ### READ TRACKER (R175) -/

/-- R190: slot 1 of READ TRACKER, item by item. -/
theorem trackerRecord_heading {g : Group} (h : g.tracker.length ≤ 8) :
    bitOf (slotAt (trackerRecord g) 0) 8 = g.held ∧ bits (slotAt (trackerRecord g) 0) 12 4 = g.tracker.length ∧
    bits (slotAt (trackerRecord g) 0) 0 2 = bits (holderItem g.holder) 0 2 ∧
    bits (slotAt (trackerRecord g) 0) 4 4 = bits (holderItem g.holder) 4 4 := by
  have item (i : Nat) (hi : 8 ≤ i) : bitOf (holderItem g.holder) i = false := by
    have low (n : StandNo) : n.val < 2 ^ (i - 4) := by
      have : 2 ^ 4 ≤ 2 ^ (i - 4) := Nat.pow_le_pow_right (by decide) (by omega)
      omega
    have kind (k : Nat) (hk : k ≤ 2) : k < 2 ^ (i - 0) := by
      have : 2 ^ 8 ≤ 2 ^ (i - 0) := Nat.pow_le_pow_right (by decide) (by omega)
      omega
    cases g.holder with
    | none => exact bitOf_zero i
    | stand n => simp only [holderItem, bitOf_or, bitOf_place_above (low n), bitOf_place_above (kind 1 (by decide)), Bool.or_self]
    | entry n => simp only [holderItem, bitOf_or, bitOf_place_above (low n), bitOf_place_above (kind 2 (by decide)), Bool.or_self]
  have zero : slotAt (trackerRecord g) 0 = holderItem g.holder ||| placeBit g.held 8 ||| place g.tracker.length 12 := rfl
  have few : g.tracker.length < 2 ^ 4 := by omega
  have clear : bits (holderItem g.holder) 12 4 = 0 := bits_eq_zero fun i hi _ => item i (by omega)
  rw [zero]
  refine ⟨?_, ?_, ?_, ?_⟩
  · simp [bitOf_placeBit, bitOf_place_below, item]
  · simp [bits_placeBit, bits_place few, clear]
  · simp [bits_placeBit, bits_place_below]
  · simp [bits_placeBit, bits_place_below]

/-- R190: the holder's kind. -/
theorem holderItem_none : bits (holderItem .none) 0 2 = 0 := bits_eq_zero fun i _ _ => bitOf_zero i

theorem holderItem_stand (n : StandNo) : bits (holderItem (.stand n)) 0 2 = 1 ∧ bits (holderItem (.stand n)) 4 4 = n.val := by
  have small : n.val < 2 ^ 4 := by omega
  simp [holderItem, bits_place, bits_place_below, bits_place_above, bits_place small]

theorem holderItem_entry (n : StandNo) : bits (holderItem (.entry n)) 0 2 = 2 ∧ bits (holderItem (.entry n)) 4 4 = n.val := by
  have small : n.val < 2 ^ 4 := by omega
  simp [holderItem, bits_place, bits_place_below, bits_place_above, bits_place small]

/-- R190: slot `i` of entry `k` of the list. -/
theorem slotAt_trackerRecord {g : Group} {k : Nat} {e : Entry} (found : g.tracker[k]? = some e) {i : Nat} (h : i < 6) :
    slotAt (trackerRecord g) (1 + i + 6 * k) = slotAt (entrySlots e) i := by
  have place : 1 + i + 6 * k = 6 * k + i + 1 := by omega
  rw [place]
  exact slotAt_flatMap length_entrySlots h found

/-- R190: the six slots of an entry, item by item. -/
theorem entrySlots_items {e : Entry} (ident : (e.ident.getD []).length ≤ 12) (next : e.next < 4) (copies : e.copies.getD 0 < 256) :
    bits (slotAt (entrySlots e) 0) 0 4 = e.stand.val ∧ bitOf (slotAt (entrySlots e) 0) 4 = e.ident.isSome ∧
    bits (slotAt (entrySlots e) 0) 8 4 = (e.ident.getD []).length ∧ bitOf (slotAt (entrySlots e) 0) 12 = e.forced ∧
    bitOf (slotAt (entrySlots e) 0) 13 = e.holdsLock ∧ bitOf (slotAt (entrySlots e) 0) 14 = e.rejectIssued ∧
    bits (slotAt (entrySlots e) 0) 16 2 = e.next ∧ bits (slotAt (entrySlots e) 0) 24 8 = e.copies.getD 0 := by
  have zero : slotAt (entrySlots e) 0 =
      place e.stand.val 0 ||| placeBit e.ident.isSome 4 ||| place (e.ident.getD []).length 8 ||| placeBit e.forced 12
        ||| placeBit e.holdsLock 13 ||| placeBit e.rejectIssued 14 ||| place e.next 16 ||| place (e.copies.getD 0) 24 := rfl
  have wide (m : Nat) (h : 4 ≤ m) : e.stand.val < 2 ^ m ∧ (e.ident.getD []).length < 2 ^ m ∧ e.next < 2 ^ m := by
    have : 2 ^ 4 ≤ 2 ^ m := Nat.pow_le_pow_right (by decide) h
    omega
  have stand (l : Nat) (h : 4 ≤ l) (len : Nat) : bits (place e.stand.val 0) l len = 0 := bits_place_above (wide _ (by omega)).1
  have standBit (l : Nat) (h : 4 ≤ l) : bitOf (place e.stand.val 0) l = false := bitOf_place_above (wide _ (by omega)).1
  have length (l : Nat) (h : 12 ≤ l) (len : Nat) : bits (place (e.ident.getD []).length 8) l len = 0 :=
    bits_place_above (wide _ (by omega)).2.1
  have lengthBit (l : Nat) (h : 12 ≤ l) : bitOf (place (e.ident.getD []).length 8) l = false :=
    bitOf_place_above (wide _ (by omega)).2.1
  have step (l : Nat) (h : 20 ≤ l) (len : Nat) : bits (place e.next 16) l len = 0 := bits_place_above (wide _ (by omega)).2.2
  have short : (e.ident.getD []).length < 16 := by omega
  rw [zero]
  refine ⟨?_, ?_, ?_, ?_, ?_, ?_, ?_, ?_⟩
  · simp [bits_place (wide 4 le_rfl).1, bits_placeBit, bits_place_below]
  · simp [standBit 4, bitOf_placeBit, bitOf_place_below]
  · simp [stand 8, bits_placeBit, bits_place, bits_place_below, short]
  · simp [standBit 12, lengthBit 12, bitOf_placeBit, bitOf_place_below]
  · simp [standBit 13, lengthBit 13, bitOf_placeBit, bitOf_place_below]
  · simp [standBit 14, lengthBit 14, bitOf_placeBit, bitOf_place_below]
  · simp [stand 16, length 16, bits_placeBit, bits_place, bits_place_below, next]
  · simp [stand 24, length 24, step 24, bits_placeBit, bits_place, copies]

end Sys2Proof.Machine

namespace Sys2Proof.Proofs

open Sys2Proof.Machine

/-- Settles O21: each table kind reads the run of its own table. -/
theorem readTable : Obligations.ReadTable := by
  intro f s kind inst first count asked hkind hinst hfirst hcount few fits
  have run : runCount (slotAt f.slots 1) = count := hcount
  refine ⟨fun k i => ?_, fun n k i => ?_, fun n k i => ?_, fun g k i => ?_, fun g k i => ?_⟩ <;>
    refine exec_readTable_answers asked few fits ?_ <;> rw [hkind, hinst, hfirst, run, k, i]
  · rfl
  · simp only [Machine.readTable, standOf_val]
  · simp only [Machine.readTable, standOf_val]
  · simp only [Machine.readTable, groupOfNumber_val]
  · simp only [Machine.readTable, groupOfNumber_val]

/-- Settles O22: the replies are the stand's and the group's records, read item by item. -/
theorem readStandAndTracker : Obligations.ReadStandAndTracker := by
  intro f s asked
  obtain ⟨hears, -, -, room, due⟩ := id asked
  refine ⟨fun n number fits => ⟨standRecord (s.stand n), ?_, length_standRecord _, ?_⟩,
    fun g number few fits => ⟨trackerRecord (s.group g), ?_, length_trackerRecord _, ?_⟩⟩
  · refine congrArg Host.Outcome.next
      (serve_answers hears room due (a := { status := .done, payload := standRecord (s.stand n), state := s }) ?_ ?_)
    · rw [withArea_asked asked, slotAt_take (by decide), number, standOf_val]
    · simp only [length_standRecord]
      omega
  · obtain ⟨state, phase, code, auto, urgent, forced, stale⟩ := standRecord_summary (s.stand n)
    have newReel (i : Nat) (h : i < 8) := slotAt_standRecord_newReel (s.stand n) h
    have expiring := slotAt_standRecord_expiring (s.stand n)
    have absent (i : Nat) (h : i < 8) (none : (s.stand n).newReel = none) : slotAt (standRecord (s.stand n)) (1 + i) = 0 := by
      rw [newReel i h, none]
      exact slotAt_absent i
    have absent' (i : Nat) (none : (s.stand n).expiring = none) : slotAt (standRecord (s.stand n)) (9 + i) = 0 := by
      rw [expiring, none]
      exact slotAt_absent i
    refine ⟨state, phase, code, auto, urgent, forced, stale, ?_, ?_, fun none i low high => ?_, fun none i low high => ?_,
      fun r present => ?_, fun r present => ?_⟩
    · change bitOf (slotAt (standRecord (s.stand n)) (1 + 0)) 0 = _
      cases present : (s.stand n).newReel with
      | none => rw [absent 0 (by decide) present]; exact bitOf_zero 0
      | some r => rw [newReel 0 (by decide), present, newReelSlots_heading]; exact (reelHeading_items ..).1
    · change bitOf (slotAt (standRecord (s.stand n)) (9 + 0)) 0 = _
      cases present : (s.stand n).expiring with
      | none => rw [absent' 0 present]; exact bitOf_zero 0
      | some r => rw [expiring, present, expiringReelSlots_heading]; exact (reelHeading_items ..).1
    · obtain ⟨k, rfl⟩ := Nat.exists_eq_add_of_le low
      exact absent k (by omega) none
    · obtain ⟨k, rfl⟩ := Nat.exists_eq_add_of_le low
      exact absent' k none
    · rw [present] at newReel
      obtain ⟨caliper, diameter, mark, time, chars⟩ := newReelSlots_items r
      obtain ⟨-, named, measured, gauge, learned, -, length⟩ :=
        reelHeading_items r.ident r.diameter.isSome (r.diameter.map (·.source) == some .gauge) r.mark.isSome false
      rw [← newReelSlots_heading, ← newReel 0 (by decide)] at named measured gauge learned length
      refine ⟨⟨named, length, fun i h => ?_⟩, measured, ?_, learned, (newReel 1 (by decide)).trans caliper,
        (newReel 2 (by decide)).trans diameter, (newReel 3 (by decide)).trans mark, (newReel 4 (by decide)).trans time⟩
      · have slot := newReel (5 + i / 4) (by omega)
        rw [← Nat.add_assoc] at slot
        rw [slot]
        exact chars i h
      · change bitOf _ 3 = true ↔ _
        rw [gauge]
        cases r.diameter with
        | none => simp
        | some d => obtain ⟨v, x⟩ := d; simp
    · rw [present] at expiring
      obtain ⟨caliper, diameter, length, time, chars⟩ := expiringReelSlots_items r
      obtain ⟨-, named, origin, estimate, unbounded, low, ident⟩ := reelHeading_items r.ident (r.origin == .spliced)
        r.estimate.isSome (r.estimate.map (·.time) == some .unbounded) r.lowReported
      rw [← expiringReelSlots_heading, ← expiring 0] at named origin estimate unbounded low ident
      refine ⟨⟨named, ident, fun i h => ?_⟩, origin, estimate, low, (expiring 1).trans caliper, fun none => ?_, fun e known => ?_⟩
      · have slot := expiring (5 + i / 4)
        rw [← Nat.add_assoc] at slot
        rw [slot]
        exact chars i h
      · rw [none] at diameter length time unbounded
        exact ⟨unbounded, (expiring 2).trans diameter, (expiring 3).trans length, (expiring 4).trans time⟩
      · rw [known] at diameter length time unbounded
        refine ⟨(expiring 2).trans diameter, (expiring 3).trans length, fun free => ?_, fun k bounded => ?_⟩
        · rw [Option.map_some, free] at unbounded time
          exact ⟨unbounded, (expiring 4).trans time⟩
        · rw [Option.map_some, bounded] at unbounded time
          exact ⟨unbounded, (expiring 4).trans time⟩
  · refine congrArg Host.Outcome.next
      (serve_answers hears room due (a := { status := .done, payload := trackerRecord (s.group g), state := s }) ?_ ?_)
    · rw [withArea_asked asked, slotAt_take (by decide), number, groupOfNumber_val]
    · simp only [length_trackerRecord]
      omega
  · obtain ⟨held, length, kind, holder⟩ := trackerRecord_heading few
    refine ⟨held, length, fun none => ?_, fun n stand => ?_, fun n entry => ?_, fun k e found ident next copies => ?_⟩
    · rw [kind, none]
      exact holderItem_none
    · rw [kind, holder, stand]
      exact holderItem_stand n
    · rw [kind, holder, entry]
      exact holderItem_entry n
    · have slot (i : Nat) (h : i < 6) := slotAt_trackerRecord found h
      obtain ⟨stand, named, length, forced, lock, issued, step, ordered⟩ := entrySlots_items ident next copies
      rw [← slot 0 (by decide)] at stand named length forced lock issued step ordered
      refine ⟨stand, named, length, forced, lock, issued, step, ordered, slot 1 (by decide), slot 2 (by decide), fun i h => ?_⟩
      have place : 4 + 6 * k + i / 4 = 1 + (3 + i / 4) + 6 * k := by omega
      have chars : slotAt (entrySlots e) (3 + i / 4) = slotAt (identSlots e.ident) (i / 4) := by
        simp [entrySlots, slotAt, List.getD_eq_getElem?_getD, Nat.add_comm 3 (i / 4)]
      rw [place, slot _ (by omega), chars]
      exact extract_identSlots e.ident h

end Sys2Proof.Proofs
end

section
/-!
PROOFS. LOAD TABLE of each table kind (R42, R122, R140, R143, R173), and the loads held pending (R45, R122, R141, R143).
First what an applied load leaves where no field waits for its judgement, then the tests of a load, then one statement a table kind.
-/

namespace Sys2Proof.Machine

/-! ### Applied loads between commands (R153) -/

/-- R153: a field's monitor by whether its base moves. -/
theorem movedMonitor_eq {α : Type} (loaded : Bool) (before after : Nat) (m : Monitor α) :
    movedMonitor loaded (after != before) m = monitorAfterLoad loaded before after m := by
  by_cases h : after = before <;> cases loaded <;> simp [movedMonitor, monitorAfterLoad, Monitor.initial, h]

/-- R153, R143: a folder field's monitor by whether its base moves. -/
theorem movedFolderMonitor_eq (loaded : Bool) (before after : Nat) (m : Monitor Nat) :
    movedFolderMonitor loaded (after != before) m = folderMonitorAfterLoad loaded before after m := by
  by_cases h : after = before <;> cases loaded <;> simp [movedFolderMonitor, folderMonitorAfterLoad, Monitor.initial, h]

section

variable {s : State} (idle : s.frame.handed = [])

include idle

/-- Between commands no field waits for its judgement. -/
theorem unjudged_idle (f : InputField) : s.unjudged f = false := by simp [State.unjudged, idle]

theorem markMoved_idle (f : InputField) (b : Bool) : markMoved f b s = s := by simp [markMoved, unjudged_idle idle]

/-- R43, R153: a stand-table load applied. -/
theorem applyStandLoad_idle (n : StandNo) (l : Load) :
    applyStandLoad n l s = s.onStand n fun st =>
      { st with
        table := l.over st.table, loaded := true
        monitor := monitorAfterLoad st.loaded (sampleBase st.table) (sampleBase (l.over st.table)) st.monitor } := by
  unfold applyStandLoad
  simp only [unjudged_idle idle, movedMonitor_eq]
  refine (markMoved_idle ?_ _ _).trans (s.onStand_congr ?_)
  · exact idle
  · simp

/-- R122, R153: a gauge-table load applied. -/
theorem applyGaugeLoad_idle (g : GaugeNo) (l : Load) :
    applyGaugeLoad g l s = s.onGauge g fun u =>
      { u with
        table := l.over u.table, loaded := true
        monitor := monitorAfterLoad u.loaded (gaugeSampleBase u.table) (gaugeSampleBase (l.over u.table)) u.monitor } := by
  unfold applyGaugeLoad
  simp only [unjudged_idle idle, movedMonitor_eq]
  refine (markMoved_idle ?_ _ _).trans (s.onGauge_congr ?_)
  · exact idle
  · simp

/-- R143, R153: a group-table load applied. -/
theorem applyGroupLoad_idle (g : GroupNo) (l : Load) :
    applyGroupLoad g l s = s.onGroup g fun u =>
      { u with
        table := l.over u.table, loaded := true
        monitor :=
          folderMonitorAfterLoad u.loaded (folderSampleBase u.table) (folderSampleBase (l.over u.table)) u.monitor } := by
  unfold applyGroupLoad
  simp only [unjudged_idle idle, movedFolderMonitor_eq]
  refine (markMoved_idle ?_ _ _).trans (s.onGroup_congr ?_)
  · exact idle
  · simp

/-- R45, R153: the stand's pending load applied, with TABLE_APPLIED. -/
theorem releaseStandLoad_idle {n : StandNo} {l : Load} (pending : (s.stand n).pendingLoad = some l) :
    releaseStandLoad n s = (s.onStand n fun st =>
      { st with
        table := l.over st.table, loaded := true, pendingLoad := none
        monitor := monitorAfterLoad st.loaded (sampleBase st.table) (sampleBase (l.over st.table)) st.monitor }).takeEvent
      .tableApplied (some n) none none := by
  simp only [releaseStandLoad, pending, applyStandLoad_idle idle, State.onStand_onStand]
  rfl

/-- R122, R153: the gauge's pending load applied, with TABLE_APPLIED. -/
theorem releaseGaugeLoad_idle {g : GaugeNo} {l : Load} (pending : (s.gauge g).pendingLoad = some l) :
    releaseGaugeLoad g s = (s.onGauge g fun u =>
      { u with
        table := l.over u.table, loaded := true, pendingLoad := none
        monitor := monitorAfterLoad u.loaded (gaugeSampleBase u.table) (gaugeSampleBase (l.over u.table)) u.monitor }).takeEvent
      .tableApplied none (some (.gauge g)) none := by
  simp only [releaseGaugeLoad, pending, applyGaugeLoad_idle idle, State.onGauge_onGauge]

/-- R143, R153: the group's pending load applied, with TABLE_APPLIED. -/
theorem releaseGroupLoad_idle {g : GroupNo} {l : Load} (pending : (s.group g).pendingLoad = some l) :
    releaseGroupLoad g s = (s.onGroup g fun u =>
      { u with
        table := l.over u.table, loaded := true, pendingLoad := none
        monitor :=
          folderMonitorAfterLoad u.loaded (folderSampleBase u.table) (folderSampleBase (l.over u.table)) u.monitor }).takeEvent
      .tableApplied none (some (.group g)) none := by
  simp only [releaseGroupLoad, pending, applyGroupLoad_idle idle, State.onGroup_onGroup]

end

/-- R141: the path table's pending load applied, with TABLE_APPLIED. -/
theorem releasePathLoad_some {s : State} {n : StandNo} {l : Load} (pending : (s.path n).pendingLoad = some l) :
    releasePathLoad n s =
      (s.onPath n fun p => { p with table := l.over p.table, loaded := true, pendingLoad := none }).takeEvent .tableApplied
        (some n) none none := by
  simp only [releasePathLoad, pending, applyPathLoad, State.onPath_onPath]
  rfl

/-- R173, R155: a part-table load applied, with the effective command lead computed afresh. -/
theorem applyPartLoad_eq {s : State} {l : Load} {t : PartTable} (table : l.over s.responder.table = t) :
    applyPartLoad l s =
      { s with
        responder := { s.responder with table := t, loaded := true }
        port := { s.port with
          effectiveLead := max t[0].toNat (2 * (match s.port.last with | some h => h.period | none => 0)) } } := by
  subst table
  have period : (match s.port.last with | some h => h.period | none => 0) = s.period := by
    unfold State.period
    cases s.port.last <;> rfl
  rw [period]
  rfl

/-! ### The tests of a load -/

section

variable {s : State} {l : Load}

/-- R42, R153: the states in which a stand-table load is not held pending, listed. -/
theorem StandState.defers_eq_false_iff (x : StandState) :
    x.defers = false ↔ x ∈ [StandState.offline, .parked, .running, .loaded, .ready, .fault] := by
  cases x <;> simp [StandState.defers]

/-- R42: the states in which a stand-table load is held pending, listed. -/
theorem StandState.defers_iff (x : StandState) :
    x.defers = true ↔ x ∈ [StandState.ranging, .waiting, .accelerating, .pasting .advance, .pasting .brush, .pasting .cut] := by
  cases x with
  | pasting p => cases p <;> simp [StandState.defers]
  | _ => simp [StandState.defers]

/-- R41: the tables that a stand table names. -/
theorem State.tablesOf_iff (t : StandTable) :
    s.tablesOf t = true ↔ (s.group (groupEntry t)).loaded = true ∧ ∀ g, gaugeEntry t = some g → (s.gauge g).loaded = true := by
  unfold State.tablesOf
  cases gaugeEntry t <;> simp

/-- R152: a single field that a load would place is clear of every other table's. -/
theorem State.placeable_single (id : TableId) (x : Placed OutputField) :
    s.placeable id [x] = true ↔ ∀ o ∈ allTables, o ≠ id → ∀ y ∈ s.fieldsOf o, conflict x y = false := by
  simp [s.placeable_iff, mem_allTables]

/-- R152: the hold slots that a path load would place are clear of every other table's fields. -/
theorem State.placeable_holds (id : TableId) (t : PathEntries) :
    s.placeable id (holdFields t) = true ↔ ∀ c, c < checkpointCount t → isHold t c = true → ∀ o ∈ allTables, o ≠ id →
      ∀ y ∈ s.fieldsOf o, conflict ⟨.hold (holdSlot t c), holdSlot t c, 1⟩ y = false := by
  simp only [s.placeable_iff, holdFields, holdCheckpoints, List.mem_map, List.mem_filter, List.mem_range]
  refine ⟨fun h c used hold o _ other => h _ ⟨c, ⟨used, hold⟩, rfl⟩ o other, ?_⟩
  rintro h _ ⟨c, ⟨used, hold⟩, rfl⟩ o other
  exact h c used hold o (mem_allTables o) other

/-- R140 step 3: a path's shape, checkpoint by checkpoint. -/
theorem pathShape_iff (t : PathEntries) :
    pathShape t = true ↔ (∀ c, c < checkpointCount t → (isHold t c = true ↔ c + 1 < checkpointCount t)) ∧
      ∀ c, c + 1 < checkpointCount t → pathLength t c < pathLength t (c + 1) := by
  simp only [pathShape, List.all_eq_true, List.mem_range, Bool.and_eq_true, Bool.or_eq_true, beq_iff_eq, decide_eq_true_eq]
  have kind (c : Nat) : (isHold t c = decide (c + 1 < checkpointCount t)) ↔ (isHold t c = true ↔ c + 1 < checkpointCount t) := by
    rw [Bool.eq_iff_iff, decide_eq_true_eq]
  simp only [kind]
  refine ⟨fun h => ⟨fun c hc => (h c hc).1, fun c hc => ?_⟩, fun ⟨kinds, rises⟩ c hc => ⟨kinds c hc, ?_⟩⟩
  · exact (h (c + 1) hc).2.resolve_left (by omega)
  · cases c with
    | zero => exact .inl rfl
    | succ c => exact .inr (rises c hc)

/-- A test of a load that fails. -/
theorem test_fails {α : Type} {p : Bool} {c : α} {k : Option α} (h : p = false) : (if !p then some c else k) = some c := by simp [h]

/-- A test of a load that passes. -/
theorem test_passes {α : Type} {p : Bool} {c : α} {k : Option α} (h : p = true) : (if !p then some c else k) = k := by simp [h]

end

/-! ### The requests -/

/-- R168, R42: the state that a LOAD TABLE leaves by its owner's judgement: refused, applied at once, or kept pending. -/
def loadAnswered (f : Frame) (refusal : Option ReplyStatus) (atOnce : Bool) (applied kept s : State) : State :=
  match refusal with
  | some c => s.answered f c []
  | none => if atOnce then applied.answered f .done [] else kept.answered f .held []

/-- R168: what a LOAD TABLE comes to, by its owner's judgement. -/
theorem serve_load {f : Frame} {s applied kept : State} {l : Load} {refusal : Option ReplyStatus} {atOnce : Bool}
    {act : State → Nat → Load → Answer} (asked : s.asked f (2 + l.values.length))
    (run : runCount (slotAt f.slots 1) = l.values.length) (first : bits (slotAt f.slots 1) 16 8 = l.first)
    (values : (f.slots.drop 2).take l.values.length = l.values)
    (judged : act s (bits (slotAt f.slots 1) 8 4) l = settleLoad refusal atOnce applied kept s) :
    serve f s (fun s => loadRequest f s (act s)) = loadAnswered f refusal atOnce applied kept s := by
  obtain ⟨hears, -, -, room, due⟩ := id asked
  have answer : loadRequest f s (act s) = settleLoad refusal atOnce applied kept s :=
    (loadRequest_asked asked run first values (act s)).trans judged
  cases refusal with
  | some c => exact serve_refuse hears room due (answer.trans (settleLoad_refused ..))
  | none =>
    cases atOnce with
    | true => exact serve_taken hears room due (answer.trans (settleLoad_applied ..))
    | false =>
      refine serve_answers hears room due (a := { status := .held, payload := [], state := kept }) ?_ ?_
      · exact answer.trans (settleLoad_kept ..)
      · exact Nat.one_le_iff_ne_zero.2 room

section

variable {f : Frame} {s : State} {l : Load} (asked : s.asked f (2 + l.values.length))
  (run : runCount (slotAt f.slots 1) = l.values.length) (first : bits (slotAt f.slots 1) 16 8 = l.first)
  (values : (f.slots.drop 2).take l.values.length = l.values)

include asked run first values

theorem exec_loadTablePart_asked (inst : bits (slotAt f.slots 1) 8 4 = 0) :
    exec (.loadTablePart f) s = .next (loadAnswered f (partLoadRefusal l s) true (applyPartLoad l s) s s) :=
  congrArg Host.Outcome.next (serve_load asked run first values (if_pos inst))

theorem exec_loadTableStand_asked {n : StandNo} (inst : bits (slotAt f.slots 1) 8 4 = n.val) :
    exec (.loadTableStand f) s = .next (loadAnswered f (standLoadRefusal n l s) (!(s.stand n).state.defers)
      (applyStandLoad n l s) (s.onStand n fun st => { st with pendingLoad := some l }) s) :=
  congrArg Host.Outcome.next (serve_load asked run first values (by rw [inst, standOf_val]))

theorem exec_loadTablePath_asked {n : StandNo} (inst : bits (slotAt f.slots 1) 8 4 = n.val) :
    exec (.loadTablePath f) s = .next (loadAnswered f (pathLoadRefusal n l s) (!s.hasEntry n)
      (applyPathLoad n l s) (s.onPath n fun p => { p with pendingLoad := some l }) s) :=
  congrArg Host.Outcome.next (serve_load asked run first values (by rw [inst, standOf_val]))

theorem exec_loadTableGroup_asked {g : GroupNo} (inst : bits (slotAt f.slots 1) 8 4 = g.val) :
    exec (.loadTableGroup f) s = .next (loadAnswered f (groupLoadRefusal g l s)
      ((s.group g).holder == .none && (s.group g).tracker.isEmpty)
      (applyGroupLoad g l s) (s.onGroup g fun u => { u with pendingLoad := some l }) s) :=
  congrArg Host.Outcome.next (serve_load asked run first values (by rw [inst, groupOfNumber_val]))

theorem exec_loadTableGauge_asked {g : GaugeNo} (inst : bits (slotAt f.slots 1) 8 4 = g.val) :
    exec (.loadTableGauge f) s = .next (loadAnswered f (gaugeLoadRefusal g l s) ((s.gauge g).state == .idle)
      (applyGaugeLoad g l s) (s.onGauge g fun u => { u with pendingLoad := some l }) s) :=
  congrArg Host.Outcome.next (serve_load asked run first values (by rw [inst, groupOfNumber_val]))

end

end Sys2Proof.Machine

namespace Sys2Proof.Proofs

open Sys2Proof.Machine

/-- Settles O28: range, then placement, then the part table applied. -/
theorem loadTablePart : Obligations.LoadTablePart := by
  intro f s l t asked run inst first values entries
  have table : l.over s.responder.table = t := Load.over_eq entries
  have judged := exec_loadTablePart_asked asked run first values inst
  have range := l.inRange_iff 4 partBounds
  have clear := s.placeable_single .part (statusField t)
  rw [judged]
  refine ⟨fun out => ?_, fun within overlap => ?_, fun within placed => ?_⟩
  · have refusal : partLoadRefusal l s = some .range := test_fails (by simpa using mt range.1 out)
    rw [refusal]
    rfl
  · have refusal : partLoadRefusal l s = some .overlap := by
      unfold partLoadRefusal
      rw [test_passes (range.2 within), table, test_fails (by simpa using mt clear.1 overlap)]
    rw [refusal]
    rfl
  · have refusal : partLoadRefusal l s = none := by
      unfold partLoadRefusal
      rw [test_passes (range.2 within), table, test_passes (clear.2 placed)]
    rw [refusal, applyPartLoad_eq table]
    rfl

/-- Settles O25: the five tests in their order, then by the stand's state. -/
theorem loadTableStand : Obligations.LoadTableStand := by
  intro f s n l t asked run inst first values entries
  have table : l.over (s.stand n).table = t := Load.over_eq entries
  have judged := exec_loadTableStand_asked asked run first values inst
  have range := l.inRange_iff 28 standBounds
  have clear := s.placeable_single (.stand n) (standField n t)
  have named := s.tablesOf_iff t
  rw [judged]
  refine ⟨fun out => ?_, fun within busy => ?_, fun within free =>
    ⟨fun low => ?_, fun high overlap => ?_, fun high placed on missing => ?_, fun high placed ready => ?_⟩⟩
  · have refusal : standLoadRefusal n l s = some .range := test_fails (by simpa using mt range.1 out)
    rw [refusal]
    rfl
  · have refusal : standLoadRefusal n l s = some .busy := (test_passes (range.2 within)).trans (if_pos busy)
    rw [refusal]
    rfl
  all_goals
    have start (c : Option ReplyStatus) (h : (if spliceDiameter t ≤ coreDiameter t then some .range
        else if !s.placeable (.stand n) [standField n t] then some .overlap
        else if (s.stand n).state ≠ .offline ∧ !s.tablesOf t then some .notLoaded else none) = c) :
        standLoadRefusal n l s = c := by
      unfold standLoadRefusal
      rw [test_passes (range.2 within), if_neg (by simp [free]), table]
      exact h
  · rw [start (some .range) (if_pos low)]
    rfl
  · rw [start (some .overlap) ((if_neg (by omega)).trans (test_fails (by simpa using mt clear.1 overlap)))]
    rfl
  · have notNamed : s.tablesOf t = false := by simpa using mt named.1 missing
    rw [start (some .notLoaded)
      ((if_neg (by omega)).trans ((test_passes (clear.2 placed)).trans (if_pos ⟨on, by simp [notNamed]⟩)))]
    rfl
  · have loaded : ¬((s.stand n).state ≠ .offline ∧ (!s.tablesOf t) = true) := by
      rintro ⟨on, missing⟩
      rcases ready with off | tables
      · exact on off
      · simp [named.2 tables] at missing
    rw [start none ((if_neg (by omega)).trans ((test_passes (clear.2 placed)).trans (if_neg loaded)))]
    refine ⟨fun deferring => ?_, fun settled idle => ?_⟩
    · have defers := (StandState.defers_iff _).2 deferring
      rw [defers]
      rfl
    · have defers : (s.stand n).state.defers = false := by simpa using mt (StandState.defers_iff _).1 settled
      have effect : applyStandLoad n l s = s.onStand n fun st =>
          { st with
            table := t, loaded := true
            monitor := monitorAfterLoad st.loaded (sampleBase st.table) (sampleBase t) st.monitor } :=
        (applyStandLoad_idle idle n l).trans (s.onStand_congr (by rw [table]))
      rw [defers, effect]
      rfl

/-- Settles O26: the four tests in their order, then by the stand's entries. -/
theorem loadTablePath : Obligations.LoadTablePath := by
  intro f s n l t asked run inst first values entries
  have table : l.over (s.path n).table = t := Load.over_eq entries
  have judged := exec_loadTablePath_asked asked run first values inst
  have range := l.inRange_iff 17 pathBounds
  have shape := pathShape_iff t
  have clear := s.placeable_holds (.path n) t
  have entered := s.hasEntry_iff n
  rw [judged]
  refine ⟨fun out => ?_, fun within busy => ?_, fun within free =>
    ⟨fun unshaped => ?_, fun shaped overlap => ?_, fun shaped placed held => ?_, fun shaped placed unentered => ?_⟩⟩
  · have refusal : pathLoadRefusal n l s = some .range := test_fails (by simpa using mt range.1 out)
    rw [refusal]
    rfl
  · have refusal : pathLoadRefusal n l s = some .busy := (test_passes (range.2 within)).trans (if_pos busy)
    rw [refusal]
    rfl
  all_goals
    have start (c : Option ReplyStatus) (h : (if !pathShape t then some .range
        else if !s.placeable (.path n) (holdFields t) then some .overlap else none) = c) : pathLoadRefusal n l s = c := by
      unfold pathLoadRefusal
      rw [test_passes (range.2 within), if_neg (by simp [free]), table]
      exact h
  · rw [start (some .range) (test_fails (by simpa using mt shape.1 unshaped))]
    rfl
  · rw [start (some .overlap) ((test_passes (shape.2 shaped)).trans (test_fails (by simpa using mt clear.1 overlap)))]
    rfl
  · rw [start none ((test_passes (shape.2 shaped)).trans (test_passes (clear.2 placed)))]
    rw [entered.2 held]
    rfl
  · have absent : s.hasEntry n = false := by simpa using mt entered.1 unentered
    rw [start none ((test_passes (shape.2 shaped)).trans (test_passes (clear.2 placed)))]
    have effect : applyPathLoad n l s = s.onPath n fun p => { p with table := t, loaded := true } := by
      simp [applyPathLoad, State.onPath, table]
    rw [absent, effect]
    rfl

/-- Settles O27: the three tests in their order, then by what holds the table's load. -/
theorem loadTableGroupAndGauge : Obligations.LoadTableGroupAndGauge := by
  intro f s g l t u asked run inst first values idle groupEntries gaugeEntries
  have groupTable : l.over (s.group g).table = t := Load.over_eq groupEntries
  have gaugeTable : l.over (s.gauge g).table = u := Load.over_eq gaugeEntries
  have groupRange := l.inRange_iff 6 groupBounds
  have gaugeRange := l.inRange_iff 3 gaugeBounds
  have groupClear := s.placeable_single (.group g) (folderField g t)
  have gaugeClear := s.placeable_single (.gauge g) (gaugeField g u)
  rw [exec_loadTableGroup_asked asked run first values inst, exec_loadTableGauge_asked asked run first values inst]
  refine ⟨⟨fun out => ?_, fun within busy => ?_, fun within free =>
      ⟨fun overlap => ?_, fun placed => ⟨fun held => ?_, fun holder tracker => ?_⟩⟩⟩,
    fun out => ?_, fun within busy => ?_, fun within free =>
      ⟨fun overlap => ?_, fun placed => ⟨fun held => ?_, fun rest => ?_⟩⟩⟩
  · have refusal : groupLoadRefusal g l s = some .range := test_fails (by simpa using mt groupRange.1 out)
    rw [refusal]
    rfl
  · have refusal : groupLoadRefusal g l s = some .busy := (test_passes (groupRange.2 within)).trans (if_pos busy)
    rw [refusal]
    rfl
  · have refusal : groupLoadRefusal g l s = some .overlap := by
      unfold groupLoadRefusal
      rw [test_passes (groupRange.2 within), if_neg (by simp [free]), groupTable,
        test_fails (by simpa using mt groupClear.1 overlap)]
    rw [refusal]
    rfl
  · have refusal : groupLoadRefusal g l s = none := by
      unfold groupLoadRefusal
      rw [test_passes (groupRange.2 within), if_neg (by simp [free]), groupTable, test_passes (groupClear.2 placed)]
    have holds : ((s.group g).holder == .none && (s.group g).tracker.isEmpty) = false := by
      rcases held with h | h <;> simp [h]
    rw [refusal, holds]
    rfl
  · have refusal : groupLoadRefusal g l s = none := by
      unfold groupLoadRefusal
      rw [test_passes (groupRange.2 within), if_neg (by simp [free]), groupTable, test_passes (groupClear.2 placed)]
    have effect : applyGroupLoad g l s = s.onGroup g fun x =>
        { x with
          table := t, loaded := true
          monitor := folderMonitorAfterLoad x.loaded (folderSampleBase x.table) (folderSampleBase t) x.monitor } :=
      (applyGroupLoad_idle idle g l).trans (s.onGroup_congr (by rw [groupTable]))
    rw [refusal, holder, tracker, effect]
    rfl
  · have refusal : gaugeLoadRefusal g l s = some .range := test_fails (by simpa using mt gaugeRange.1 out)
    rw [refusal]
    rfl
  · have refusal : gaugeLoadRefusal g l s = some .busy := (test_passes (gaugeRange.2 within)).trans (if_pos busy)
    rw [refusal]
    rfl
  · have refusal : gaugeLoadRefusal g l s = some .overlap := by
      unfold gaugeLoadRefusal
      rw [test_passes (gaugeRange.2 within), if_neg (by simp [free]), gaugeTable,
        test_fails (by simpa using mt gaugeClear.1 overlap)]
    rw [refusal]
    rfl
  · have refusal : gaugeLoadRefusal g l s = none := by
      unfold gaugeLoadRefusal
      rw [test_passes (gaugeRange.2 within), if_neg (by simp [free]), gaugeTable, test_passes (gaugeClear.2 placed)]
    have busy : ((s.gauge g).state == .idle) = false := by simpa using held
    rw [refusal, busy]
    rfl
  · have refusal : gaugeLoadRefusal g l s = none := by
      unfold gaugeLoadRefusal
      rw [test_passes (gaugeRange.2 within), if_neg (by simp [free]), gaugeTable, test_passes (gaugeClear.2 placed)]
    have effect : applyGaugeLoad g l s = s.onGauge g fun x =>
        { x with
          table := u, loaded := true
          monitor := monitorAfterLoad x.loaded (gaugeSampleBase x.table) (gaugeSampleBase u) x.monitor } :=
      (applyGaugeLoad_idle idle g l).trans (s.onGauge_congr (by rw [gaugeTable]))
    rw [refusal, rest, effect]
    rfl

/-- Settles O29: each row by what holds its table's load, and what follows a release by whether the grant goes first. -/
theorem pendingLoads : Obligations.PendingLoads := by
  refine ⟨fun s low idle => ?_, fun s g => ?_⟩
  · have row {t : State} : (Host.Outcome.next (if s.resetLow then s else t) : Host.Outcome State Fault Refusal) = .next t := by
      simp [low]
    refine ⟨fun n l pending state => ?_, fun n held => ?_, fun n l pending free => ?_, fun n held => ?_,
      fun g l pending holder tracker => ?_, fun g held => ?_, fun g l pending rest => ?_, fun g held => ?_⟩ <;> refine row.trans ?_
    · have defers := (StandState.defers_eq_false_iff _).2 state
      rw [settleStand, if_neg (by simp [defers]), releaseStandLoad_idle idle pending]
    · rw [settleStand]
      split
      · rfl
      · next defers =>
        have state := (StandState.defers_eq_false_iff _).1 (Bool.eq_false_iff.2 defers)
        simp only [releaseStandLoad, held.resolve_right (fun barred => barred state)]
    · have absent : s.hasEntry n = false := by
        refine Bool.eq_false_iff.2 (mt (s.hasEntry_iff n).1 ?_)
        rintro ⟨g, e, m, of⟩
        exact free g e m of
      rw [settlePath, if_neg (by simp [absent]), releasePathLoad_some pending]
    · rw [settlePath]
      split
      · rfl
      · next absent => simp only [releasePathLoad, held.resolve_right (fun entered => absent ((s.hasEntry_iff n).2 entered))]
    · rw [settleGroup, if_pos (by simp [holder, tracker]), releaseGroupLoad_idle idle pending]
    · rw [settleGroup]
      split
      · next free =>
        obtain ⟨holder, tracker⟩ : (s.group g).holder = .none ∧ (s.group g).tracker = [] := by simpa using free
        have none : (s.group g).pendingLoad = none := by simpa [holder, tracker] using held
        simp only [releaseGroupLoad, none]
      · rfl
    · rw [settleGauge, if_pos (by simp [rest]), releaseGaugeLoad_idle idle pending]
    · rw [settleGauge]
      split
      · next free =>
        have rest : (s.gauge g).state = .idle := by simpa using free
        simp only [releaseGaugeLoad, held.resolve_right (fun busy => busy rest)]
      · rfl
  · refine ⟨fun held => ?_, fun low plain => ?_, fun l pending holder tracker first due => ?_⟩
    · have plain : s.grantGoesFirst g = false := by
        rcases held with h | h | h <;> simp [State.grantGoesFirst, h]
      rw [settleReleased_plain s plain, settleGroup]
      split
      · next free =>
        obtain ⟨holder, tracker⟩ : (s.group g).holder = .none ∧ (s.group g).tracker = [] := by simpa using free
        have none : (s.group g).pendingLoad = none := by simpa [holder, tracker] using held
        simp only [releaseGroupLoad, none]
      · rfl
    · have plain : s.grantGoesFirst g = false := by
        rcases plain with h | h <;> simp [State.grantGoesFirst, h]
      rw [settleReleased_plain s plain]
      exact congrArg Host.Outcome.next (if_neg (by simp [low]))
    · have goes : s.grantGoesFirst g = true := by simp [State.grantGoesFirst, pending, holder, tracker, first, due]
      refine ⟨settleReleased_refused s goes, fun n made => ?_⟩
      have granted := settleReleased_granted s goes made
      have effect : perform (.grant g) (s.dropDue (.grant g)) = grantTo g n (s.dropDue (.grant g)) := by
        simp only [perform, considerGrant, grantee_dropDue, made]
      simp only [granted]
      refine ⟨effect.symm, grantTo_holder _ g n, ?_, ?_, ?_⟩
      · simp [grantTo, enterAccelerating, pending]
      · simp [grantTo, enterAccelerating]
      · simp [grantTo, enterAccelerating]

end Sys2Proof.Proofs
end

section
/-!
PROOFS. RESTART PART (R182): what each block's part of the restart leaves, and that the parts do not touch one another.
-/

namespace Sys2Proof.Machine

/-! ### A list of units, each changed once -/

/-- Each unit of a list without repetitions is changed once, and what the changes rest on stays. -/
theorem foldl_each {α β γ : Type} {f : State → α → State} (get : State → α → β) (rest : State → γ) (ok : γ → Prop)
    (k : γ → β → β) (self : ∀ s a, ok (rest s) → get (f s a) a = k (rest s) (get s a))
    (other : ∀ s a b, ok (rest s) → a ≠ b → get (f s a) b = get s b) (keep : ∀ s a, ok (rest s) → rest (f s a) = rest s)
    (l : List α) (nodup : l.Nodup) (s : State) (h : ok (rest s)) :
    rest (l.foldl f s) = rest s ∧ (∀ a ∈ l, get (l.foldl f s) a = k (rest s) (get s a)) ∧
      ∀ a, a ∉ l → get (l.foldl f s) a = get s a := by
  induction l generalizing s with
  | nil => simp
  | cons a l ih =>
    obtain ⟨fresh, nodup⟩ := List.nodup_cons.1 nodup
    have kept := keep s a h
    obtain ⟨same, changed, untouched⟩ := ih nodup (f s a) (by rwa [kept])
    rw [List.foldl_cons]
    refine ⟨same.trans kept, fun b m => ?_, fun b m => ?_⟩
    · rcases List.mem_cons.1 m with rfl | m
      · rw [untouched b fresh, self s b h]
      · rw [changed b m, kept, other s a b h (fun e => fresh (e ▸ m))]
    · rw [List.mem_cons, not_or] at m
      rw [untouched b m.2, other s a b h (fun e => m.1 e.symm)]

/-! ### What the restart leaves of each unit -/

/-- R7, R45: what the restart leaves of a stand. -/
def Stand.afterRestart (st : Stand) : Stand :=
  match st.pendingLoad with
  | none => st.restarted
  | some l =>
    { st.restarted with
      table := l.over st.table, loaded := true, pendingLoad := none
      monitor := monitorAfterLoad st.loaded (sampleBase st.table) (sampleBase (l.over st.table)) st.monitor }

/-- R110, R144: the lock's items and the list of a group emptied. -/
def Group.emptied (u : Group) : Group :=
  { u with holder := .none, held := false, waiting := Vector.replicate 8 false, tracker := [] }

/-- R110, R144: what the restart leaves of a group. -/
def Group.afterRestart (u : Group) : Group :=
  match u.pendingLoad with
  | none => u.emptied
  | some l =>
    { u.emptied with
      table := l.over u.table, loaded := true, pendingLoad := none
      monitor :=
        folderMonitorAfterLoad u.loaded (folderSampleBase u.table) (folderSampleBase (l.over u.table)) u.monitor }

/-- R123: the queue emptied and the pending load applied. -/
def Gauge.unloaded (u : Gauge) : Gauge :=
  match u.pendingLoad with
  | none => { u with queue := [] }
  | some l =>
    { u with
      queue := [], table := l.over u.table, loaded := true, pendingLoad := none
      monitor := monitorAfterLoad u.loaded (gaugeSampleBase u.table) (gaugeSampleBase (l.over u.table)) u.monitor }

/-- R123: what the restart leaves of a gauge. -/
def Gauge.afterRestart (now : BitVec 32) (u : Gauge) : Gauge :=
  { u.unloaded with
    state := match u.state with
      | .measuring _ _ => .cancelling (now + BitVec.ofNat 32 (1000 * measureTimeout u.unloaded.table))
      | x => x }

/-- R144: what the restart leaves of a path table. -/
def PathTable.afterRestart (p : PathTable) : PathTable :=
  match p.pendingLoad with
  | none => p
  | some l => { table := l.over p.table, loaded := true, pendingLoad := none }

/-- The part of the restart that is one block's changes of its own unit and an event. -/
abbrev State.SameParts (s t : State) : Prop :=
  t.port = s.port ∧ t.frame = s.frame ∧ t.responder.table = s.responder.table ∧ t.responder.loaded = s.responder.loaded

/-- R7: the restart of a stand, between commands. -/
theorem restartStand_eq {s : State} (idle : s.frame.handed = []) (n : StandNo) :
    s.SameParts (restartStand s n) ∧ (restartStand s n).groups = s.groups ∧ (restartStand s n).gauges = s.gauges ∧
      (restartStand s n).paths = s.paths ∧ (restartStand s n).stands = (s.onStand n Stand.afterRestart).stands := by
  unfold restartStand
  cases pending : (s.stand n).pendingLoad with
  | none =>
    have kept : ((s.onStand n Stand.restarted).stand n).pendingLoad = none := by simpa [Stand.restarted] using pending
    have effect : s.onStand n Stand.restarted = s.onStand n Stand.afterRestart :=
      s.onStand_congr (by simp [Stand.afterRestart, pending])
    simp only [releaseStandLoad, kept]
    exact ⟨⟨rfl, rfl, rfl, rfl⟩, rfl, rfl, rfl, congrArg State.stands effect⟩
  | some l =>
    have kept : ((s.onStand n Stand.restarted).stand n).pendingLoad = some l := by simpa [Stand.restarted] using pending
    rw [releaseStandLoad_idle (s := s.onStand n Stand.restarted) idle kept, State.onStand_onStand]
    refine ⟨⟨rfl, rfl, by simp, by simp⟩, rfl, rfl, rfl, ?_⟩
    rw [State.takeEvent_stands]
    refine congrArg State.stands (s.onStand_congr ?_)
    simp only [Stand.afterRestart, pending]
    rfl

/-- R110, R144: the restart of a group, between commands. -/
theorem restartGroup_eq {s : State} (idle : s.frame.handed = []) (g : GroupNo) :
    s.SameParts (restartGroup s g) ∧ (restartGroup s g).stands = s.stands ∧ (restartGroup s g).gauges = s.gauges ∧
      (restartGroup s g).paths = s.paths ∧ (restartGroup s g).groups = (s.onGroup g Group.afterRestart).groups := by
  have emptied (t : State) (parts : s.SameParts t) (stands : t.stands = s.stands) (gauges : t.gauges = s.gauges)
      (paths : t.paths = s.paths) (groups : t.groups = s.groups) :
      s.SameParts (releaseGroupLoad g (t.onGroup g Group.emptied)) ∧
        (releaseGroupLoad g (t.onGroup g Group.emptied)).stands = s.stands ∧
        (releaseGroupLoad g (t.onGroup g Group.emptied)).gauges = s.gauges ∧
        (releaseGroupLoad g (t.onGroup g Group.emptied)).paths = s.paths ∧
        (releaseGroupLoad g (t.onGroup g Group.emptied)).groups = (s.onGroup g Group.afterRestart).groups := by
    obtain ⟨port, frame, table, loaded⟩ := parts
    have group : t.group g = s.group g := by simp [State.group, groups]
    have onto {k : Group → Group} (h : k (s.group g) = (s.group g).afterRestart) :
        (t.onGroup g k).groups = (s.onGroup g Group.afterRestart).groups := by
      simp [State.onGroup, group, groups, h]
    cases pending : (s.group g).pendingLoad with
    | none =>
      have kept : ((t.onGroup g Group.emptied).group g).pendingLoad = none := by simpa [Group.emptied, group] using pending
      simp only [releaseGroupLoad, kept]
      exact ⟨⟨port, frame, table, loaded⟩, stands, gauges, paths, onto (by simp [Group.afterRestart, pending])⟩
    | some l =>
      have kept : ((t.onGroup g Group.emptied).group g).pendingLoad = some l := by simpa [Group.emptied, group] using pending
      have idle' : (t.onGroup g Group.emptied).frame.handed = [] := by rw [State.onGroup_frame, frame, idle]
      rw [releaseGroupLoad_idle idle' kept, State.onGroup_onGroup]
      refine ⟨⟨port, frame, by simpa using table, by simpa using loaded⟩, stands, gauges, paths, ?_⟩
      rw [State.takeEvent_groups]
      refine onto ?_
      simp only [Group.afterRestart, pending]
      rfl
  unfold restartGroup
  simp only
  split
  · exact emptied _ ⟨rfl, rfl, by simp, by simp⟩ rfl rfl rfl rfl
  · exact emptied _ ⟨rfl, rfl, rfl, rfl⟩ rfl rfl rfl rfl

/-- R123: the queue of a gauge emptied and its pending load applied, between commands. -/
theorem unloadGauge_eq {s : State} (idle : s.frame.handed = []) (g : GaugeNo) :
    ∃ r, r.table = s.responder.table ∧ r.loaded = s.responder.loaded ∧
      releaseGaugeLoad g (s.onGauge g fun u => { u with queue := [] }) =
        { s.onGauge g Gauge.unloaded with responder := r } := by
  cases pending : (s.gauge g).pendingLoad with
  | none =>
    have kept : ((s.onGauge g fun u => { u with queue := [] }).gauge g).pendingLoad = none := by simpa using pending
    have effect : (s.onGauge g fun u => { u with queue := [] }) = s.onGauge g Gauge.unloaded :=
      s.onGauge_congr (by simp [Gauge.unloaded, pending])
    refine ⟨s.responder, rfl, rfl, ?_⟩
    simp only [releaseGaugeLoad, kept]
    exact effect
  | some l =>
    have kept : ((s.onGauge g fun u => { u with queue := [] }).gauge g).pendingLoad = some l := by simpa using pending
    rw [releaseGaugeLoad_idle (s := s.onGauge g fun u => { u with queue := [] }) idle kept, State.onGauge_onGauge]
    refine ⟨(s.takeEvent .tableApplied none (some (.gauge g)) none).responder, by simp, by simp, ?_⟩
    rw [s.onGauge_congr (k := Gauge.unloaded) (by simp only [Gauge.unloaded, pending])]
    rfl

/-- R123: the restart of a gauge, between commands. -/
theorem restartGauge_eq {s : State} (idle : s.frame.handed = []) (g : GaugeNo) :
    s.SameParts (restartGauge s g) ∧ (restartGauge s g).stands = s.stands ∧ (restartGauge s g).groups = s.groups ∧
      (restartGauge s g).paths = s.paths ∧ (restartGauge s g).gauges = (s.onGauge g (Gauge.afterRestart s.now)).gauges := by
  obtain ⟨r, table, loaded, unload⟩ := unloadGauge_eq idle g
  have state : (s.gauge g).unloaded.state = (s.gauge g).state := by unfold Gauge.unloaded; split <;> rfl
  have gauge : ({ s.onGauge g Gauge.unloaded with responder := r } : State).gauge g = (s.gauge g).unloaded :=
    s.onGauge_gauge_self g _
  unfold restartGauge
  rw [unload]
  simp only [gauge, state]
  split
  · next n d measuring =>
    have effect : ({ s.onGauge g Gauge.unloaded with responder := r } : State).onGauge g (fun u =>
        { u with state := .cancelling (addMs s.now (measureTimeout u.table)) }) =
        { s.onGauge g (Gauge.afterRestart s.now) with responder := r } := by
      have twice := s.onGauge_onGauge g Gauge.unloaded fun u =>
        { u with state := .cancelling (addMs s.now (measureTimeout u.table)) }
      have once := s.onGauge_congr (g := g) (k := Gauge.afterRestart s.now)
        (f := fun x => { x.unloaded with state := .cancelling (addMs s.now (measureTimeout x.unloaded.table)) })
        (by simp only [Gauge.afterRestart, measuring, addMs])
      exact congrArg (fun t : State => { t with responder := r }) (twice.trans once)
    have cancel : cancelMeasure g { s.onGauge g Gauge.unloaded with responder := r } =
        { s.onGauge g (Gauge.afterRestart s.now) with responder := r } := effect
    rw [cancel]
    exact ⟨⟨rfl, rfl, table, loaded⟩, rfl, rfl, rfl, rfl⟩
  · next other =>
    refine ⟨⟨rfl, rfl, table, loaded⟩, rfl, rfl, rfl, ?_⟩
    change (s.onGauge g Gauge.unloaded).gauges = _
    refine congrArg State.gauges (s.onGauge_congr ?_)
    simp only [Gauge.afterRestart]
    rw [← state]

/-- R144: the restart of a path table. -/
theorem restartPath_eq (s : State) (n : StandNo) :
    s.SameParts (restartPath s n) ∧ (restartPath s n).stands = s.stands ∧ (restartPath s n).groups = s.groups ∧
      (restartPath s n).gauges = s.gauges ∧ (restartPath s n).paths = (s.onPath n PathTable.afterRestart).paths := by
  unfold restartPath
  cases pending : (s.path n).pendingLoad with
  | none =>
    have effect : s.onPath n PathTable.afterRestart = s := by
      have same : (s.path n).afterRestart = s.path n := by simp [PathTable.afterRestart, pending]
      unfold State.onPath
      rw [same]
      simp [State.path]
    have kept : releasePathLoad n s = s := by simp only [releasePathLoad, pending]
    rw [effect, kept]
    exact ⟨⟨rfl, rfl, rfl, rfl⟩, rfl, rfl, rfl, rfl⟩
  | some l =>
    rw [releasePathLoad_some pending]
    refine ⟨⟨rfl, rfl, by simp, by simp⟩, rfl, rfl, rfl, ?_⟩
    simp [State.onPath, PathTable.afterRestart, pending]

/-! ### The whole restart -/

/-- R182: what the restart leaves of every block, between commands. -/
structure Restarted (s t : State) : Prop where
  parts : s.SameParts t
  stand : ∀ n, t.stand n = (s.stand n).afterRestart
  group : ∀ g, t.group g = (s.group g).afterRestart
  gauge : ∀ g, t.gauge g = (s.gauge g).afterRestart s.now
  path : ∀ n, t.path n = (s.path n).afterRestart

/-- What the restart of one block's units rests on. -/
abbrev State.restartParts (s : State) : Port × FrameWork × Vector Word 4 × Bool :=
  (s.port, s.frame, s.responder.table, s.responder.loaded)

theorem restarted_restartBlocks {s : State} (idle : s.frame.handed = []) : Restarted s (restartBlocks s) := by
  obtain ⟨kept₁, stands, -⟩ := foldl_each (f := restartStand) State.stand
    (fun s => (s.restartParts, s.groups, s.gauges, s.paths)) (fun r => r.1.2.1.handed = []) (fun _ => Stand.afterRestart)
    (fun s n h => by
      obtain ⟨-, -, -, -, e⟩ := restartStand_eq h n
      simpa [State.stand, State.onStand] using congrArg (fun v => v[n.val]) e)
    (fun s n m h w => by
      obtain ⟨-, -, -, -, e⟩ := restartStand_eq h n
      simpa [State.stand, State.onStand, Fin.val_ne_of_ne w] using congrArg (fun v => v[m.val]) e)
    (fun s n h => by
      obtain ⟨⟨a, b, c, d⟩, e, f, g, -⟩ := restartStand_eq h n
      simp only [State.restartParts, a, b, c, d, e, f, g])
    (List.finRange 8) (List.nodup_finRange 8) s idle
  set a := (List.finRange 8).foldl restartStand s
  simp only [Prod.mk.injEq] at kept₁
  obtain ⟨⟨port₁, frame₁, table₁, loaded₁⟩, groups₁, gauges₁, paths₁⟩ := kept₁
  obtain ⟨kept₂, gauges, -⟩ := foldl_each (f := restartGauge) State.gauge
    (fun s => (s.restartParts, s.stands, s.groups, s.paths)) (fun r => r.1.2.1.handed = [])
    (fun r => Gauge.afterRestart ((r.1.1.last.map (·.time)).getD 0))
    (fun s g h => by
      obtain ⟨-, -, -, -, e⟩ := restartGauge_eq h g
      simpa [State.gauge, State.onGauge, State.now] using congrArg (fun v => v[g.val]) e)
    (fun s g k h w => by
      obtain ⟨-, -, -, -, e⟩ := restartGauge_eq h g
      simpa [State.gauge, State.onGauge, Fin.val_ne_of_ne w] using congrArg (fun v => v[k.val]) e)
    (fun s g h => by
      obtain ⟨⟨a, b, c, d⟩, e, f, g, -⟩ := restartGauge_eq h g
      simp only [State.restartParts, a, b, c, d, e, f, g])
    (List.finRange 4) (List.nodup_finRange 4) a (by simpa [State.restartParts, frame₁] using idle)
  set b := (List.finRange 4).foldl restartGauge a
  simp only [Prod.mk.injEq] at kept₂
  obtain ⟨⟨port₂, frame₂, table₂, loaded₂⟩, stands₂, groups₂, paths₂⟩ := kept₂
  obtain ⟨kept₃, groups, -⟩ := foldl_each (f := restartGroup) State.group
    (fun s => (s.restartParts, s.stands, s.gauges, s.paths)) (fun r => r.1.2.1.handed = []) (fun _ => Group.afterRestart)
    (fun s g h => by
      obtain ⟨-, -, -, -, e⟩ := restartGroup_eq h g
      simpa [State.group, State.onGroup] using congrArg (fun v => v[g.val]) e)
    (fun s g k h w => by
      obtain ⟨-, -, -, -, e⟩ := restartGroup_eq h g
      simpa [State.group, State.onGroup, Fin.val_ne_of_ne w] using congrArg (fun v => v[k.val]) e)
    (fun s g h => by
      obtain ⟨⟨a, b, c, d⟩, e, f, g, -⟩ := restartGroup_eq h g
      simp only [State.restartParts, a, b, c, d, e, f, g])
    (List.finRange 4) (List.nodup_finRange 4) b (by simpa [State.restartParts, frame₂, frame₁] using idle)
  set c := (List.finRange 4).foldl restartGroup b
  simp only [Prod.mk.injEq] at kept₃
  obtain ⟨⟨port₃, frame₃, table₃, loaded₃⟩, stands₃, gauges₃, paths₃⟩ := kept₃
  obtain ⟨kept₄, paths, -⟩ := foldl_each (f := restartPath) State.path
    (fun s => (s.restartParts, s.stands, s.groups, s.gauges)) (fun _ => True) (fun _ => PathTable.afterRestart)
    (fun s n _ => by
      obtain ⟨-, -, -, -, e⟩ := restartPath_eq s n
      simpa [State.path, State.onPath] using congrArg (fun v => v[n.val]) e)
    (fun s n m _ w => by
      obtain ⟨-, -, -, -, e⟩ := restartPath_eq s n
      simpa [State.path, State.onPath, Fin.val_ne_of_ne w] using congrArg (fun v => v[m.val]) e)
    (fun s n _ => by
      obtain ⟨⟨a, b, c, d⟩, e, f, g, -⟩ := restartPath_eq s n
      simp only [State.restartParts, a, b, c, d, e, f, g])
    (List.finRange 8) (List.nodup_finRange 8) c trivial
  simp only [Prod.mk.injEq] at kept₄
  obtain ⟨⟨port₄, frame₄, table₄, loaded₄⟩, stands₄, groups₄, gauges₄⟩ := kept₄
  have now : ((a.port.last.map (·.time)).getD 0) = s.now := by rw [port₁]; rfl
  change Restarted s ((List.finRange 8).foldl restartPath c)
  constructor
  · exact ⟨by rw [port₄, port₃, port₂, port₁], by rw [frame₄, frame₃, frame₂, frame₁], by rw [table₄, table₃, table₂, table₁],
      by rw [loaded₄, loaded₃, loaded₂, loaded₁]⟩
  · intro n
    rw [← stands n (List.mem_finRange n)]
    simp only [State.stand, stands₄, stands₃, stands₂]
  · intro g
    have before : b.group g = s.group g := by simp only [State.group, groups₂, groups₁]
    rw [← before, ← groups g (List.mem_finRange g)]
    simp only [State.group, groups₄]
  · intro g
    have before : a.gauge g = s.gauge g := by simp only [State.gauge, gauges₁]
    rw [← before, ← now, ← gauges g (List.mem_finRange g)]
    simp only [State.gauge, gauges₄, gauges₃]
  · intro n
    have before : c.path n = s.path n := by simp only [State.path, paths₃, paths₂, paths₁]
    rw [← before, ← paths n (List.mem_finRange n)]

end Sys2Proof.Machine

namespace Sys2Proof.Proofs

open Sys2Proof.Machine

/-- Settles O20: refused while a stand pastes, else every block restarted and the Service Responder emptied. -/
theorem restartPart : Obligations.RestartPart := by
  intro f s asked
  obtain ⟨hears, -, -, room, due⟩ := id asked
  have pasting := s.anyPasting_iff
  refine ⟨fun some => congrArg Host.Outcome.next (serve_refuse hears room due ?_), fun none idle => ?_⟩
  · rw [withArea_asked asked]
    exact if_pos (pasting.2 some)
  · have free : s.anyPasting = false := by
      refine Bool.eq_false_iff.2 (mt pasting.1 ?_)
      rintro ⟨n, h⟩
      simp [none n] at h
    have blocks := restarted_restartBlocks idle
    refine ⟨_, congrArg Host.Outcome.next (serve_taken hears room due (t := Machine.restartPart s) ?_), rfl, ?_⟩
    · rw [withArea_asked asked]
      exact if_neg (by simp [free])
    obtain ⟨port, frame, table, loaded⟩ := blocks.parts
    rw [restartPart_eq]
    generalize restartBlocks s = u at blocks port frame table loaded
    refine ⟨rfl, port, frame, ?_, fun n => ?_, fun n => ?_, fun g => ?_, fun g => ?_⟩
    · change u.responder.restarted = s.responder.restarted
      simp only [Responder.restarted, table, loaded]
    · refine (blocks.path n).trans ?_
      unfold PathTable.afterRestart
      cases (s.path n).pendingLoad <;> rfl
    · refine (blocks.stand n).trans ?_
      unfold Stand.afterRestart Stand.restarted
      cases (s.stand n).pendingLoad <;> rfl
    · refine (blocks.group g).trans ?_
      unfold Group.afterRestart Group.emptied
      cases (s.group g).pendingLoad <;> rfl
    · refine (blocks.gauge g).trans ?_
      unfold Gauge.afterRestart Gauge.unloaded
      cases (s.gauge g).pendingLoad <;> rfl

end Sys2Proof.Proofs
end

section
/-!
PROOFS. The placement of the paste instant (R78 to R80): the least whole number of turns to the execute floor, in the signed reading of
ring times (R1).
-/

namespace Sys2Proof.Machine

/-- R1: a ring time moved on reads as the sum, as long as it does not pass the middle of the ring. -/
theorem toInt_add_ofNat {b : BitVec 32} {n : Nat} (h : b.toInt + n < 2 ^ 31) : (b + BitVec.ofNat 32 n).toInt = b.toInt + n := by
  have low : -(2 ^ 31) ≤ b.toInt := BitVec.le_toInt b
  rw [BitVec.toInt_add, BitVec.toInt_ofNat', Int.add_bmod_bmod]
  exact Int.bmod_eq_of_le (by omega) (by omega)

/-- R1: a quotient rounded up is the least factor that reaches the number. -/
theorem divUp_least {a b : Nat} (h : 0 < b) : a ≤ divUp a b * b ∧ divUp a b * b < a + b ∧ ∀ k, k < divUp a b → k * b < a := by
  unfold divUp
  have quotient := Nat.div_add_mod (a + b - 1) b
  have remainder := Nat.mod_lt (a + b - 1) h
  rw [Nat.mul_comm] at quotient
  refine ⟨by omega, by omega, fun k hk => ?_⟩
  have step : (k + 1) * b ≤ (a + b - 1) / b * b := Nat.mul_le_mul_right b hk
  rw [Nat.add_mul] at step
  omega

/-- R80: the roll-over is the least number of turns that brings the brush time to the floor. -/
theorem rollover_least (brush floor : BitVec 32) {turn : Nat} (positive : 0 < turn) (short : turn < 2 ^ 31) :
    0 ≤ (brush + BitVec.ofNat 32 (rollover brush floor turn * turn) - floor).toInt ∧
      ∀ k, k < rollover brush floor turn → (brush + BitVec.ofNat 32 (k * turn) - floor).toInt < 0 := by
  have low : -(2 ^ 31) ≤ (brush - floor).toInt := BitVec.le_toInt _
  have moved (m : Nat) (h : (brush - floor).toInt + (m * turn : Nat) < 2 ^ 31) :
      (brush + BitVec.ofNat 32 (m * turn) - floor).toInt = (brush - floor).toInt + (m * turn : Nat) := by
    rw [← toInt_add_ofNat h]
    congr 1
    ring
  by_cases ahead : reached brush floor = true
  · have zero : rollover brush floor turn = 0 := if_pos ahead
    have le : 0 ≤ (brush - floor).toInt := by simpa [reached, since] using ahead
    rw [zero]
    refine ⟨?_, fun k h => absurd h (Nat.not_lt_zero k)⟩
    simpa using le
  · have behind : (brush - floor).toInt < 0 := by simpa [reached, since] using ahead
    have count : rollover brush floor turn = divUp (since brush floor).natAbs turn := if_neg ahead
    obtain ⟨reaches, within, least⟩ := divUp_least (a := (since brush floor).natAbs) positive
    rw [← count] at reaches within least
    have size : ((since brush floor).natAbs : Int) = -(brush - floor).toInt := by
      unfold since
      omega
    refine ⟨?_, fun k h => ?_⟩
    · rw [moved _ (by omega)]
      omega
    · have := least k h
      rw [moved _ (by omega)]
      omega

end Sys2Proof.Machine

namespace Sys2Proof.Proofs

open Sys2Proof.Machine

/-- Settles O41: the roll-over of R80 is the number of turns asked for. -/
theorem pasteInstantPlacement : Obligations.PasteInstantPlacement := by
  intro mark offset angle latency v floor slow fast
  have positive : 0 < 10 ^ 9 / v.rate := Nat.div_pos (by omega) (by omega)
  have short : 10 ^ 9 / v.rate < 2 ^ 31 := Nat.lt_of_le_of_lt (Nat.div_le_self _ _) (by decide)
  exact ⟨_, rfl, rfl, rollover_least _ floor positive short⟩

end Sys2Proof.Proofs
end

section
/-!
PROOFS. The rows that lead a stand to ACCELERATING: the automatic trigger (R21), the grant of the lock (R97 to R99) and the forced start
(R23, R24). First what an accepted sample does, state by state, then what the entry to ACCELERATING writes.
-/

namespace Sys2Proof.Machine

/-! ### An accepted sample (R8) -/

section

variable {s : State} {n : StandNo} {v : StandSample}

/-- R8: at an accepted sample the stand's sample piece is the handling of that sample. -/
theorem perform_sample (fresh : .stand n ∈ s.frame.fresh) (held : (s.stand n).monitor.held = some v) :
    perform (.sample n) s = handleSample n v s := by
  simp [perform, State.accepted, sampleWork, fresh, held]

/-- A row that names what comes about at the stand's accepted sample. -/
theorem comesAbout_sample (next : s.nextIs (.sample n)) (fresh : .stand n ∈ s.frame.fresh) (held : (s.stand n).monitor.held = some v)
    (came : State → State → Bool) :
    comesAbout (.sample n) came s =
      if came s (handleSample n v (s.dropDue (.sample n))) then handleSample n v (s.dropDue (.sample n)) else s := by
  rw [comesAbout_next next, perform_sample (s := s.dropDue _) fresh held]

theorem handleSample_ready (h : (s.stand n).state = .ready) (web : v.web = true) :
    handleSample n v s = if (s.reelTracked n v).triggers n then enterWaiting n false (s.reelTracked n v) else s.reelTracked n v := by
  simp [handleSample, h, web, trackStand_eq]
  rfl

theorem handleSample_waiting (h : (s.stand n).state = .waiting) (web : v.web = true) :
    handleSample n v s = tryForced n (markForced n (s.reelTracked n v)) := by
  simp [handleSample, h, web, trackStand_eq]

/-! ### What tracking leaves of the stand (R49) -/

theorem reelTracked_self :
    (s.reelTracked n v).stand n =
      { s.stand n with
        expiring := (s.stand n).expiring.map fun r =>
          trackReel r (coreDiameter (s.stand n).table) (spliceDiameter (s.stand n).table) v } :=
  s.onStand_stand_self n _

/-- R163: tracking keeps the held values. -/
theorem reelTracked_held (held : (s.stand n).monitor.held = some v) : ((s.reelTracked n v).stand n).monitor.held = some v := by
  rw [reelTracked_self]
  exact held

/-- R94: tracking keeps the stand's group. -/
theorem reelTracked_groupOf : (s.reelTracked n v).groupOf n = s.groupOf n := by
  simp [State.groupOf]

/-- R49: the estimate after tracking is that of the tracked record. -/
theorem reelTracked_estimate :
    ((s.reelTracked n v).stand n).expiring.bind (·.estimate) =
      (s.stand n).expiring.bind fun r =>
        (trackReel r (coreDiameter (s.stand n).table) (spliceDiameter (s.stand n).table) v).estimate := by
  rw [reelTracked_self]
  cases (s.stand n).expiring <;> rfl

/-- R163: the held speed of a stand whose held sample is known. -/
theorem Stand.heldSpeed_of_held {st : Stand} (held : st.monitor.held = some v) : st.heldSpeed = v.webSpeed := by
  simp [Stand.heldSpeed, held]

/-- R163: the minimum speed test by the held sample. -/
theorem Stand.fastEnough_of_held {st : Stand} (held : st.monitor.held = some v) :
    st.fastEnough = decide (minimumSpeed st.table ≤ v.webSpeed) := by
  simp [Stand.fastEnough, held]

/-- R58: the remaining time in ms, where the estimate holds one. -/
theorem Stand.remainingMs_eq_some {st : Stand} {ms : Nat} :
    st.remainingMs = some ms ↔ ∃ e, st.expiring.bind (·.estimate) = some e ∧ e.time = .ms ms := by
  unfold Stand.remainingMs
  cases st.expiring.bind (·.estimate) with
  | none => simp
  | some e => cases h : e.time <;> simp [h]

/-- R63: the lead, where the new reel has a diameter. -/
theorem State.leadOf_eq_some {speed l : Nat} :
    s.leadOf n speed = some l ↔ ∃ q d, (s.stand n).newReel = some q ∧ q.diameter = some d ∧
      leadTime speed (acceleration (s.stand n).table) (settleTime (s.stand n).table) (setupTime (s.stand n).table) d.value
        s.port.effectiveLead = l := by
  unfold State.leadOf
  cases reel : (s.stand n).newReel with
  | none => simp [reel]
  | some q => cases diameter : q.diameter <;> simp [reel, diameter]

/-- R60 to R63: the lead by its formula. -/
theorem leadTime_eq (speed a settle setup d lead : Nat) :
    leadTime speed a settle setup d lead =
      (speed * 1000 + a - 1) / a + settle + setup + (35500 * d + 113 * speed - 1) / (113 * speed) + (lead + 999) / 1000 := by
  simp [leadTime, accelerationTime, leadRevolutionTime, divUp]

/-- R21: the trigger fires where the auto flag is on, the speed is held, no entry is tracked and the time left is within the lead. -/
theorem State.triggers_iff (s : State) (n : StandNo) :
    s.triggers n = true ↔ (s.stand n).auto = true ∧ (s.stand n).fastEnough = true ∧ s.hasEntry n = false ∧
      ∃ ms l, (s.stand n).remainingMs = some ms ∧ s.leadOf n (s.stand n).heldSpeed = some l ∧ ms ≤ l := by
  unfold State.triggers
  cases (s.stand n).remainingMs <;> cases s.leadOf n (s.stand n).heldSpeed <;> simp [and_assoc]

/-- R21: the trigger after tracking, by what the state before it holds. -/
theorem triggers_tracked (held : (s.stand n).monitor.held = some v) :
    (s.reelTracked n v).triggers n = true ↔
      (s.stand n).auto = true ∧ minimumSpeed (s.stand n).table ≤ v.webSpeed ∧ (¬∃ g, ∃ x ∈ (s.group g).tracker, x.stand = n) ∧
      ∃ q d e ms, (s.stand n).newReel = some q ∧ q.diameter = some d ∧
        ((s.stand n).expiring.bind fun r =>
          (trackReel r (coreDiameter (s.stand n).table) (spliceDiameter (s.stand n).table) v).estimate) = some e ∧
        e.time = .ms ms ∧
        ms ≤ leadTime v.webSpeed (acceleration (s.stand n).table) (settleTime (s.stand n).table) (setupTime (s.stand n).table)
          d.value s.port.effectiveLead := by
  have tracked := reelTracked_held held
  have entry : (s.reelTracked n v).hasEntry n = false ↔ ¬∃ g, ∃ x ∈ (s.group g).tracker, x.stand = n := by
    rw [← Bool.not_eq_true, State.hasEntry_iff]
    exact Iff.rfl
  rw [State.triggers_iff, Stand.fastEnough_of_held tracked, Stand.heldSpeed_of_held tracked, entry]
  simp only [Stand.remainingMs_eq_some, reelTracked_estimate, State.leadOf_eq_some]
  rw [reelTracked_self]
  constructor
  · rintro ⟨auto, fast, none, ms, _, ⟨e, estimate, time⟩, ⟨q, d, reel, diameter, rfl⟩, le⟩
    exact ⟨auto, of_decide_eq_true fast, none, q, d, e, ms, reel, diameter, estimate, time, le⟩
  · rintro ⟨auto, fast, none, q, d, e, ms, reel, diameter, estimate, time, le⟩
    exact ⟨auto, decide_eq_true fast, none, ms, _, ⟨e, estimate, time⟩, ⟨q, d, reel, diameter, rfl⟩, le⟩

end

/-! ### Entry to ACCELERATING (R25, R68) -/

/-- R25, R33, R68, R70: a stand entered to ACCELERATING, by its held sample and its new reel. -/
abbrev Stand.entered (now : BitVec 32) (v : StandSample) (q : NewReel) (d : MeasuredDiameter) (forced : Bool) (st : Stand) : Stand :=
  { st with
    state := .accelerating, urgent := false, forced := forced, newReel := some { q with mark := none }, rotation := .accel
    rotationRef := referenceAt st.table d v
    schedule := some
      { matchCount := 0, markCount := 0, lastMark := none, markReference := v.markCount
        matchDeadline := now + BitVec.ofNat 32 (1000 *
          ((v.webSpeed * 1000 + acceleration st.table - 1) / acceleration st.table + settleTime st.table
            + matchAllowance st.table))
        advanceDeadline := none, contactTime := none, brushTime := none, confirmDeadline := none
        confirmReference := none, knifeTime := none, knifeReference := none } }

/-- R70: n_ref of a stand whose new reel has a diameter, by its formula. -/
theorem Stand.reference_eq {st : Stand} {q : NewReel} {d : MeasuredDiameter} (reel : st.newReel = some q)
    (diameter : q.diameter = some d) (v : StandSample) : st.reference v.webSpeed = referenceAt st.table d v := by
  simp [Stand.reference, reel, diameter, rotationReference, divNearest]

/-- R25: what the entry to ACCELERATING writes, marks and records included. -/
theorem enterAccelerating_eq {s : State} {n : StandNo} {v : StandSample} {q : NewReel} {d : MeasuredDiameter}
    (held : (s.stand n).monitor.held = some v) (reel : (s.stand n).newReel = some q) (diameter : q.diameter = some d)
    (marks : (s.stand n).urgent = false) :
    enterAccelerating n s = s.onStand n fun st => st.entered s.now v q d st.forced := by
  refine s.onStand_congr ?_
  simp [Stand.entered, Stand.newSchedule, Stand.heldSpeed_of_held held, Stand.reference_eq reel diameter, held, reel, marks, addMs,
    accelerationTime, divUp]

/-! ### The grant (R97 to R99) -/

section

variable {s : State} {g : GroupNo} {n : StandNo}

/-- R127: no list holds an entry of the stand. -/
theorem State.hasEntry_eq_false (s : State) (n : StandNo) :
    s.hasEntry n = false ↔ ∀ h, ∀ x ∈ (s.group h).tracker, x.stand ≠ n := by
  simp [← Bool.not_eq_true, s.hasEntry_iff n]

/-- R97: an eligible stand waits, is fast enough and has no entry. -/
theorem State.eligible_iff (s : State) (g : GroupNo) (n : StandNo) :
    s.eligible g n = true ↔ (s.group g).waiting[n.val] = true ∧
      (∃ v, (s.stand n).monitor.held = some v ∧ minimumSpeed (s.stand n).table ≤ v.webSpeed) ∧
      ∀ h, ∀ x ∈ (s.group h).tracker, x.stand ≠ n := by
  simp [State.eligible, Stand.fastEnough_iff, s.hasEntry_eq_false, and_assoc]

/-- R98: in a rising list, a stand before the chosen one has a key that is not as small. -/
theorem smallestKey_first {l : List StandNo} (rising : l.Pairwise (· < ·)) (h : smallestKey s l = some n) :
    ∀ m ∈ l, m < n → keyBelow (s.stand n).key (s.stand m).key = true := by
  induction l generalizing n with
  | nil => simp
  | cons a as ih =>
    obtain ⟨first, rest⟩ := List.pairwise_cons.1 rising
    simp only [smallestKey] at h
    intro m hm less
    cases e : smallestKey s as with
    | none =>
      rw [e] at h
      obtain rfl := Option.some.inj h
      obtain rfl := (smallestKey_none s as).1 e
      obtain rfl := List.mem_singleton.1 hm
      exact absurd less (lt_irrefl _)
    | some k =>
      simp only [e] at h
      split at h
      · next below =>
        obtain rfl := Option.some.inj h
        rcases List.mem_cons.1 hm with rfl | inside
        · exact below
        · exact ih rest e m inside less
      · obtain rfl := Option.some.inj h
        rcases List.mem_cons.1 hm with rfl | inside
        · exact absurd less (lt_irrefl _)
        · exact absurd less (lt_asymm (first m inside))

/-- R97: no grant is made where the group is HELD, has a holder, or no stand is eligible. -/
theorem grantee_none (h : (s.group g).held = true ∨ (s.group g).holder ≠ .none ∨ ∀ m, s.eligible g m = false) :
    s.grantee g = none := by
  unfold State.grantee
  rcases h with held | holder | none
  · simp [held]
  · simp [holder]
  · have empty : (List.finRange 8).filter (s.eligible g) = [] := List.filter_eq_nil_iff.2 fun m _ => by simp [none m]
    rw [empty]
    exact ite_self _

/-- R97, R98: the grant goes to the eligible stand that comes before every other eligible one. -/
theorem grantee_some (open' : (s.group g).held = false) (free : (s.group g).holder = .none) (eligible : s.eligible g n = true)
    (before : ∀ m, s.eligible g m = true → m ≠ n →
      keyBelow (s.stand n).key (s.stand m).key = true ∨ keyBelow (s.stand m).key (s.stand n).key = false ∧ n < m) :
    s.grantee g = some n := by
  have rising : ((List.finRange 8).filter (s.eligible g)).Pairwise (· < ·) := (List.pairwise_lt_finRange 8).filter _
  have inside : n ∈ (List.finRange 8).filter (s.eligible g) := by simp [eligible]
  unfold State.grantee
  rw [open', free]
  cases choice : smallestKey s ((List.finRange 8).filter (s.eligible g)) with
  | none => rw [(smallestKey_none s _).1 choice] at inside; simp at inside
  | some m =>
    obtain ⟨member, least⟩ := smallestKey_least s _ m choice
    have chosen : m = n := by
      by_contra other
      rcases before m (List.mem_filter.1 member).2 other with below | ⟨-, less⟩
      · exact absurd (least n inside) (by simp [below])
      · have above := smallestKey_first rising choice n inside less
        rcases before m (List.mem_filter.1 member).2 other with below | ⟨level, -⟩
        · exact absurd (least n inside) (by simp [below])
        · exact absurd above (by simp [level])
    simp [chosen]

/-- R98: the key as the statements spell it. -/
theorem Stand.key_eq (st : Stand) :
    st.key = if st.urgent then some 0 else match st.expiring.bind (·.estimate) with
      | some ⟨_, _, .ms t⟩ => some t
      | _ => none := by
  unfold Stand.key
  cases st.expiring.bind (·.estimate) with
  | none => rfl
  | some e => obtain ⟨_, _, time⟩ := e; cases time <;> rfl

/-- R98: who goes before whom, by the comparison of keys. -/
theorem keyBelow_of_before {a b : Option Nat} {n m : StandNo}
    (h : (∃ x, a = some x ∧ ∀ y, b = some y → x < y ∨ x = y ∧ n < m) ∨ a = none ∧ b = none ∧ n < m) :
    keyBelow a b = true ∨ keyBelow b a = false ∧ n < m := by
  rcases h with ⟨x, rfl, less⟩ | ⟨rfl, rfl, less⟩
  · cases b with
    | none => exact .inl rfl
    | some y =>
      rcases less y rfl with below | ⟨rfl, number⟩
      · simp [keyBelow, below]
      · simp [keyBelow, number]
  · simp [keyBelow, less]

end

/-! ### The forced start (R23, R24) -/

section

variable {s : State} {n : StandNo}

/-- R23: the conditions of the forced mark. -/
theorem State.mustForce_iff (s : State) (n : StandNo) :
    s.mustForce n = true ↔ (s.stand n).forced = false ∧ (s.group (s.groupOf n)).holder ≠ .stand n ∧ s.hasEntry n = false ∧
      ∃ e, (s.stand n).expiring.bind (·.estimate) = some e ∧ e.length ≤ forcedMargin (s.stand n).table := by
  unfold State.mustForce State.holdsLock
  cases (s.stand n).expiring.bind (·.estimate) <;> simp [and_assoc]

/-- R24: the conditions of a forced start. -/
theorem State.startsForced_iff (s : State) (n : StandNo) :
    s.startsForced n = true ↔ (s.stand n).forced = true ∧ s.hasEntry n = false ∧ (s.stand n).fastEnough = true := by
  simp [State.startsForced, and_assoc]

/-- R24, R25: a forced start by its held sample and its new reel. -/
theorem startForced_eq {v : StandSample} {q : NewReel} {d : MeasuredDiameter} (held : (s.stand n).monitor.held = some v)
    (reel : (s.stand n).newReel = some q) (diameter : q.diameter = some d) :
    startForced n s =
      (s.onGroup (s.groupOf n) fun g => { g with waiting := g.waiting.set n.val false }).onStand n fun st =>
        st.entered s.now v q d st.forced := by
  rw [startForced, leaveWaiting, enterAccelerating_eq (v := v) (q := q) (d := d) (by simpa using held) (by simpa using reel) diameter
    (by simp), State.onStand_onStand]
  rfl

/-- R23: the forced mark's conditions after tracking, by what the state before it holds. -/
theorem mustForce_tracked {v : StandSample} :
    (s.reelTracked n v).mustForce n = true ↔
      (s.stand n).forced = false ∧ (s.group (s.groupOf n)).holder ≠ .stand n ∧ (∀ g, ∀ x ∈ (s.group g).tracker, x.stand ≠ n) ∧
      ∃ e, ((s.stand n).expiring.bind fun r =>
          (trackReel r (coreDiameter (s.stand n).table) (spliceDiameter (s.stand n).table) v).estimate) = some e ∧
        e.length ≤ forcedMargin (s.stand n).table := by
  rw [State.mustForce_iff, State.hasEntry_eq_false, reelTracked_estimate, reelTracked_groupOf, reelTracked_self]
  exact Iff.rfl

/-- R24: the conditions of a forced start after tracking, by what the state before it holds. -/
theorem startsForced_tracked {v : StandSample} (held : (s.stand n).monitor.held = some v) :
    (s.reelTracked n v).startsForced n = true ↔
      (s.stand n).forced = true ∧ (∀ g, ∀ x ∈ (s.group g).tracker, x.stand ≠ n) ∧ minimumSpeed (s.stand n).table ≤ v.webSpeed := by
  rw [State.startsForced_iff, State.hasEntry_eq_false, Stand.fastEnough_of_held (reelTracked_held held), decide_eq_true_iff,
    reelTracked_self]
  exact Iff.rfl

/-- R23: a stand on which the forced mark is set. -/
abbrev State.forcedMarked (s : State) (n : StandNo) : State :=
  (s.onStand n fun st => { st with forced := true }).takeEvent .spliceForced (some n) none none

/-- R24: the conditions of a forced start with the mark set by this sample. -/
theorem startsForced_marked {v : StandSample} (held : (s.stand n).monitor.held = some v) :
    ((s.reelTracked n v).forcedMarked n).startsForced n = true ↔
      (∀ g, ∀ x ∈ (s.group g).tracker, x.stand ≠ n) ∧ minimumSpeed (s.stand n).table ≤ v.webSpeed := by
  have marked : (((s.reelTracked n v).forcedMarked n).stand n).monitor.held = some v := by simpa using held
  rw [State.startsForced_iff, State.hasEntry_eq_false, Stand.fastEnough_of_held marked, decide_eq_true_iff]
  simp

/-- R23: no mark is set where its conditions do not hold. -/
theorem markForced_idle (h : ¬s.mustForce n = true) : markForced n s = s := if_neg h

/-- R24: no start is made where its conditions do not hold. -/
theorem tryForced_idle (h : ¬s.startsForced n = true) : tryForced n s = s := if_neg h

end

end Sys2Proof.Machine

namespace Sys2Proof.Proofs

open Sys2Proof.Machine

/-- Settles O42: the trigger's condition read on the tracked state. -/
theorem automaticTrigger : Obligations.AutomaticTrigger := by
  intro s n v fresh held ready web t after lead hasEntry
  constructor
  · intro q d e ms next reel diameter auto fast none estimate time le
    have fires := (triggers_tracked (s := s.dropDue (.sample n)) held).2
      ⟨auto, fast, none, q, d, e, ms, reel, diameter, estimate, time, (leadTime_eq ..).symm ▸ le⟩
    have sample : handleSample n v (s.dropDue (.sample n)) = enterWaiting n false ((s.dropDue (.sample n)).reelTracked n v) := by
      rw [handleSample_ready (s := s.dropDue _) ready web, if_pos fires]
    have came : State.moves n .ready .waiting s (enterWaiting n false ((s.dropDue (.sample n)).reelTracked n v)) = true := by
      simp [State.moves, enterWaiting_eq, ready]
    show Host.Outcome.next _ = _
    rw [comesAbout_sample next fresh held, sample, if_pos came, enterWaiting_eq, reelTracked_groupOf]
    rfl
  · intro holds
    rw [perform_sample fresh held, handleSample_ready ready web, if_neg]
    rw [triggers_tracked held]
    rintro ⟨auto, fast, none, q, d, e, ms, reel, diameter, estimate, time, le⟩
    rw [leadTime_eq] at le
    rcases holds with off | slow | entry | absent | ⟨x, present, unbounded⟩ | ⟨q', d', x, ms', reel', diameter', present, time', above⟩
    · simp [off] at auto
    · exact absurd fast (Nat.not_le.2 slow)
    · exact none entry
    · exact absurd (absent.symm.trans estimate) (by simp)
    · obtain rfl := Option.some.inj (estimate.symm.trans present)
      simp [time] at unbounded
    · obtain rfl := Option.some.inj (reel.symm.trans reel')
      obtain rfl := Option.some.inj (diameter.symm.trans diameter')
      obtain rfl := Option.some.inj (estimate.symm.trans present)
      obtain rfl := RemainingTime.ms.inj (time.symm.trans time')
      exact absurd le (Nat.not_le.2 above)

/-- Settles O43: the grantee by its key, and what the grant writes. -/
theorem lockGrant : Obligations.LockGrant := by
  intro s g next eligible key before
  have row : exec (.lockGrant g) s =
      .next (if (s.grantee g).isSome then considerGrant g (s.dropDue (.grant g)) else s) :=
    congrArg Host.Outcome.next (comesAbout_next next _)
  constructor
  · intro barred
    have none : s.grantee g = none := by
      refine grantee_none ?_
      rcases barred with held | holder | none
      · exact .inl held
      · exact .inr (.inl holder)
      · exact .inr (.inr fun m => Bool.eq_false_iff.2 fun h => none m ((s.eligible_iff g m).1 h))
    rw [row, none]
    rfl
  · intro n v held q reel d diameter open' free chosen first
    have grantee : s.grantee g = some n := by
      refine grantee_some open' free ((s.eligible_iff g n).2 chosen) fun m other ne => keyBelow_of_before ?_
      have keyed (k : StandNo) : (s.stand k).key = key k := (s.stand k).key_eq
      rw [keyed, keyed]
      exact first m ((s.eligible_iff g m).1 other) ne
    have granted : considerGrant g (s.dropDue (.grant g)) = grantTo g n (s.dropDue (.grant g)) := by
      simp [considerGrant, grantee]
    rw [row, grantee, granted, grantTo]
    simp only [Option.isSome_some, if_true]
    rw [enterAccelerating_eq (v := v) (q := q) (d := d) (by simpa using held) (by simpa using reel) diameter (by simp),
      State.onStand_onStand]
    rfl

/-- Settles O44: the forced mark and the forced start read on the tracked state. -/
theorem forcedStart : Obligations.ForcedStart := by
  refine ⟨fun s n v q d r next fresh held waiting reel diameter web fast none expiring => ?_,
    fun s n v r e fresh held waiting web slow none expiring unmarked lock => ?_, fun s n v fresh held waiting web => ?_⟩
  · intro t r' start
    have row := comesAbout_sample next fresh held (State.moves n .waiting .accelerating)
    rw [handleSample_waiting (s := s.dropDue _) waiting web] at row
    have starts {w : State} (effect : tryForced n (markForced n ((s.dropDue (.sample n)).reelTracked n v)) = start w) :
        exec (.forcedStart n) s = .next (start w) := by
      have came : State.moves n .waiting .accelerating s (start w) = true := by simp [State.moves, start, waiting]
      refine congrArg Host.Outcome.next (row.trans ?_)
      rw [effect, if_pos came]
    refine ⟨fun marked => starts ?_, fun e estimate low unmarked lock => starts ?_⟩
    · have keeps : ¬((s.dropDue (.sample n)).reelTracked n v).mustForce n = true := by
        rw [mustForce_tracked]
        exact fun h => absurd (marked.symm.trans h.1) (by simp)
      have fires := (startsForced_tracked (s := s.dropDue (.sample n)) held).2 ⟨marked, none, fast⟩
      rw [markForced_idle keeps, tryForced, if_pos fires, startForced_eq (v := v) (q := q) (d := d) (by simpa using held)
        (by simpa using reel) diameter, State.onStand_onGroup, State.onStand_onStand, reelTracked_groupOf]
      exact State.onStand_congr _ (by simp [expiring, marked, Stand.entered, t, r'])
    · have marks := (mustForce_tracked (s := s.dropDue (.sample n)) (v := v)).2
        ⟨unmarked, lock, none, e, by simpa [expiring] using estimate, low⟩
      have fires := (startsForced_marked (s := s.dropDue (.sample n)) held).2 ⟨none, fast⟩
      have marked : markForced n ((s.dropDue (.sample n)).reelTracked n v) =
          ((s.dropDue (.sample n)).reelTracked n v).forcedMarked n := if_pos marks
      rw [marked, tryForced, if_pos fires, startForced_eq (v := v) (q := q) (d := d) (by simpa using held)
        (by simpa using reel) diameter]
      have group : (((s.dropDue (.sample n)).reelTracked n v).forcedMarked n).groupOf n = s.groupOf n := by simp [State.groupOf]
      rw [group]
      simp only [State.forcedMarked, State.onStand_takeEvent, State.onStand_onGroup, State.onStand_onStand]
      exact State.onStand_congr _ (by simp [expiring, Stand.entered, t, r'])
  · intro t r' estimate low
    have marks := (mustForce_tracked (v := v)).2 ⟨unmarked, lock, none, e, by simpa [expiring] using estimate, low⟩
    have stays : ¬((s.reelTracked n v).forcedMarked n).startsForced n = true := by
      rw [startsForced_marked held]
      exact fun h => absurd h.2 (Nat.not_le.2 slow)
    rw [perform_sample fresh held, handleSample_waiting waiting web, markForced, if_pos marks]
    refine (tryForced_idle stays).trans ?_
    rw [State.forcedMarked, State.onStand_onStand]
    exact congrArg _ (State.onStand_congr _ (by simp [expiring, t, r']))
  · intro t after hasEntry
    have entries (h : hasEntry) : ¬∀ g, ∀ x ∈ (s.group g).tracker, x.stand ≠ n := by simpa [hasEntry] using h
    rw [perform_sample fresh held, handleSample_waiting waiting web]
    refine ⟨fun unmarked holds => ?_, fun marked holds => ?_⟩
    · have keeps : ¬(s.reelTracked n v).mustForce n = true := by
        rw [mustForce_tracked]
        rintro ⟨-, lock, none, e, estimate, low⟩
        rcases holds with absent | ⟨x, present, above⟩ | own | entry
        · exact absurd (absent.symm.trans estimate) (by simp)
        · obtain rfl := Option.some.inj (estimate.symm.trans present)
          exact absurd low (Nat.not_le.2 above)
        · exact lock own
        · exact entries entry none
      have stays : ¬(s.reelTracked n v).startsForced n = true := by
        rw [startsForced_tracked held]
        exact fun h => absurd (unmarked.symm.trans h.1) (by simp)
      rw [markForced_idle keeps, tryForced_idle stays]
    · have keeps : ¬(s.reelTracked n v).mustForce n = true := by
        rw [mustForce_tracked]
        exact fun h => absurd (marked.symm.trans h.1) (by simp)
      have stays : ¬(s.reelTracked n v).startsForced n = true := by
        rw [startsForced_tracked held]
        rintro ⟨-, none, fast⟩
        rcases holds with slow | entry
        · exact absurd fast (Nat.not_le.2 slow)
        · exact entries entry none
      rw [markForced_idle keeps, tryForced_idle stays]

end Sys2Proof.Proofs
end

section
/-!
PROOFS. The splice's own course (chapter 4): the match test and the learning of the mark in ACCELERATING, the paste instant, the
confirmation and the completion.
-/

namespace Sys2Proof.Machine

/-! ### ACCELERATING (R72 to R75) -/

/-- R72: the match count after a sample. -/
abbrev PasteSchedule.counted (p : PasteSchedule) (t : StandTable) (d : MeasuredDiameter) (v : StandSample) : Nat :=
  if ((v.rate : Int) - referenceAt t d v).natAbs ≤ referenceAt t d v * speedTolerance t / 10000 then min 16 (p.matchCount + 1)
  else 0

/-- R74: the sample's mark angle agrees with another one. -/
abbrev StandSample.agrees (v : StandSample) (t : StandTable) (a : BitVec 12) : Prop :=
  min (v.markAngle - a).toNat (4096 - (v.markAngle - a).toNat) ≤ t[15].toNat

/-- R73, R74: a stand with the outcome of a sample's mark learning: the mark angle, the mark count, the last mark angle. -/
abbrev Stand.judged (q : NewReel) (p : PasteSchedule) (v : StandSample) (mark : Option (BitVec 12)) (marks : Nat)
    (last : Option (BitVec 12)) (st : Stand) : Stand :=
  { st with
    newReel := some { q with mark := mark }
    schedule := some { p with markCount := marks, lastMark := last, markReference := v.markCount } }

section

variable {st : Stand} {q : NewReel} {p : PasteSchedule} {v : StandSample}

/-- R73: without an increase of the mark count nothing is judged. -/
theorem Stand.learnMark_same (schedule : st.schedule = some p) (reel : st.newReel = some q) (same : v.markCount = p.markReference) :
    st.learnMark v = st.judged q p v q.mark p.markCount p.lastMark := by
  obtain ⟨⟩ := st
  subst schedule reel
  simp [Stand.learnMark, same]

/-- R73: with the mark learned a latch moves the reference alone. -/
theorem Stand.learnMark_learned {a : BitVec 12} (schedule : st.schedule = some p) (reel : st.newReel = some q)
    (learned : q.mark = some a) : st.learnMark v = st.judged q p v (some a) p.markCount p.lastMark := by
  by_cases same : v.markCount = p.markReference
  · rw [Stand.learnMark_same schedule reel same, learned]
  · obtain ⟨⟩ := st
    subst schedule reel
    obtain ⟨⟩ := q
    subst learned
    simp [Stand.learnMark, same, Stand.markLearned]

/-- R74: a latch that agrees with the last one is learned. -/
theorem Stand.learnMark_agrees {a : BitVec 12} (schedule : st.schedule = some p) (reel : st.newReel = some q)
    (open' : q.mark = none) (latch : v.markCount ≠ p.markReference) (last : p.lastMark = some a) (agrees : v.agrees st.table a) :
    st.learnMark v = st.judged q p v (some v.markAngle) (p.markCount + 1) p.lastMark := by
  have near : circularDistance v.markAngle a ≤ markTolerance st.table := agrees
  simp [Stand.learnMark, Stand.markLearned, Stand.judgeLatch, schedule, reel, open', latch, last, near]

/-- R74: a first or disagreeing latch becomes the last mark angle. -/
theorem Stand.learnMark_differs (schedule : st.schedule = some p) (reel : st.newReel = some q) (open' : q.mark = none)
    (latch : v.markCount ≠ p.markReference) (differs : ∀ a, p.lastMark = some a → ¬v.agrees st.table a) :
    st.learnMark v = st.judged q p v none (p.markCount + 1) (some v.markAngle) := by
  have reel' : st.newReel = some { q with mark := none } := by rw [reel, ← open']
  cases last : p.lastMark with
  | none => simp [Stand.learnMark, Stand.markLearned, Stand.judgeLatch, schedule, reel', latch, last]
  | some a =>
    have far : ¬circularDistance v.markAngle a ≤ markTolerance st.table := differs a last
    simp [Stand.learnMark, Stand.markLearned, Stand.judgeLatch, schedule, reel', latch, last, far]

end

section

variable {s : State} {n : StandNo} {q : NewReel} {d : MeasuredDiameter} {p : PasteSchedule} {v : StandSample}

/-- R26: a sample of ACCELERATING with web, drive and speed in order. -/
theorem handleSample_accelerating (h : (s.stand n).state = .accelerating) (web : v.web = true) (ready : v.ready = true)
    (fast : minimumSpeed (s.stand n).table ≤ v.webSpeed) : handleSample n v s = accelerate n v (s.reelTracked n v) := by
  have fast : ¬v.webSpeed < minimumSpeed ((trackStand n v s).stand n).table := by
    rw [trackStand_eq, reelTracked_self]
    exact Nat.not_lt.2 fast
  simp only [handleSample, h, acceleratingSample, web, ready, if_neg fast]
  rfl

/-- R70 to R74: a stand in ACCELERATING after the match test and the mark learning of a sample. -/
abbrev State.handled (s : State) (n : StandNo) (v : StandSample) (q : NewReel) (d : MeasuredDiameter) (p : PasteSchedule)
    (count : Nat) (mark : Option (BitVec 12)) (marks : Nat) (last : Option (BitVec 12)) : State :=
  (s.referred n v d).onStand n (Stand.judged q { p with matchCount := count } v mark marks last)

/-- R72: the match test after tracking and stage E. -/
theorem testMatch_referred (schedule : (s.stand n).schedule = some p) :
    testMatch n v (s.referred n v d) = (s.referred n v d).onStand n fun st =>
      { st with schedule := some { p with matchCount := p.counted (s.stand n).table d v } } := by
  refine State.onStand_congr _ ?_
  simp only [Stand.onSchedule, State.onStand_stand_self, schedule, Option.map_some, matched, decide_eq_true_eq]

/-- R72: the match test changes the match count alone. -/
theorem testMatch_eq (v : StandSample) (schedule : (s.stand n).schedule = some p) :
    ∃ count, testMatch n v s = s.onStand n fun st => { st with schedule := some { p with matchCount := count } } := by
  refine ⟨if matched v.rate (s.stand n).rotationRef (speedTolerance (s.stand n).table) then min 16 (p.matchCount + 1) else 0, ?_⟩
  refine s.onStand_congr ?_
  simp only [Stand.onSchedule, schedule, Option.map_some]

/-- R26 step 4: what a sample does in ACCELERATING, by the outcome of its match test and of its mark learning. -/
theorem accelerate_judged {u : State} {count : Nat} {mark : Option (BitVec 12)} {marks : Nat} {last : Option (BitVec 12)}
    (reel : (s.stand n).newReel = some q)
    (matching : testMatch n v (referTo n v u) = s.onStand n fun st => { st with schedule := some { p with matchCount := count } })
    (learnt : ∀ st : Stand, st.table = (s.stand n).table → st.newReel = some q →
      st.schedule = some { p with matchCount := count } →
      st.learnMark v = st.judged q { p with matchCount := count } v mark marks last) :
    accelerate n v u =
      if q.mark = none ∧ mark = none ∧ v.markCount ≠ p.markReference ∧ markLimit (s.stand n).table ≤ marks then
        enterFault n .markFail (s.onStand n (Stand.judged q { p with matchCount := count } v mark marks last))
      else if mark ≠ none ∧ (s.stand n).table[14].toNat ≤ count then
        enterAdvance n (s.onStand n (Stand.judged q { p with matchCount := count } v mark marks last))
      else s.onStand n (Stand.judged q { p with matchCount := count } v mark marks last) := by
  unfold accelerate
  rw [matching]
  have judged : (s.onStand n fun st => { st with schedule := some { p with matchCount := count } }).onStand n
      (fun st => st.learnMark v) = s.onStand n (Stand.judged q { p with matchCount := count } v mark marks last) := by
    rw [State.onStand_onStand]
    refine State.onStand_congr _ ?_
    exact learnt { s.stand n with schedule := some { p with matchCount := count } } rfl reel rfl
  have fails : Stand.markFails ((s.onStand n fun st => { st with schedule := some { p with matchCount := count } }).stand n)
      ((s.onStand n (Stand.judged q { p with matchCount := count } v mark marks last)).stand n) = true ↔
      q.mark = none ∧ mark = none ∧ v.markCount ≠ p.markReference ∧ markLimit (s.stand n).table ≤ marks := by
    simp [Stand.markFails, Stand.markLearned, reel, and_assoc, eq_comm (a := v.markCount)]
  have advances : ((s.onStand n (Stand.judged q { p with matchCount := count } v mark marks last)).stand n).readyToAdvance = true ↔
      mark ≠ none ∧ (s.stand n).table[14].toNat ≤ count := by
    simp [Stand.readyToAdvance, Stand.markLearned, Option.isSome_iff_ne_none, matchCountEntry]
  simp only [judged, fails, advances]

/-- R26 step 4: as `accelerate_judged`, for a stand whose new reel has a diameter. -/
theorem accelerate_eq {count : Nat} {mark : Option (BitVec 12)} {marks : Nat} {last : Option (BitVec 12)}
    (reel : (s.stand n).newReel = some q) (diameter : q.diameter = some d) (schedule : (s.stand n).schedule = some p)
    (counted : p.counted (s.stand n).table d v = count)
    (learnt : ∀ st : Stand, st.table = (s.stand n).table → st.newReel = some q →
      st.schedule = some { p with matchCount := count } →
      st.learnMark v = st.judged q { p with matchCount := count } v mark marks last) :
    accelerate n v (s.reelTracked n v) =
      if q.mark = none ∧ mark = none ∧ v.markCount ≠ p.markReference ∧ markLimit (s.stand n).table ≤ marks then
        enterFault n .markFail (s.handled n v q d p count mark marks last)
      else if mark ≠ none ∧ (s.stand n).table[14].toNat ≤ count then
        enterAdvance n (s.handled n v q d p count mark marks last)
      else s.handled n v q d p count mark marks last := by
  have matching : testMatch n v (referTo n v (s.reelTracked n v)) = (s.referred n v d).onStand n fun st =>
      { st with schedule := some { p with matchCount := count } } := by
    rw [← trackStand_eq, referTo_trackStand v reel diameter, testMatch_referred schedule, counted]
  have table : ((s.referred n v d).stand n).table = (s.stand n).table := by simp
  rw [accelerate_judged (by simpa using reel) matching (by rw [table]; exact learnt), table]

/-! ### PASTING (R76 to R87) -/

/-- R8, R70: a sample of PASTING begins with the tracking and the rotation reference. -/
theorem handleSample_advance (h : (s.stand n).state = .pasting .advance) (reel : (s.stand n).newReel = some q)
    (diameter : q.diameter = some d) : handleSample n v s = advanceSample n v (s.referred n v d) := by
  rw [handleSample, h]
  simp only [referTo_trackStand v reel diameter]

theorem handleSample_brush (h : (s.stand n).state = .pasting .brush) (reel : (s.stand n).newReel = some q)
    (diameter : q.diameter = some d) : handleSample n v s = brushSample n v (s.referred n v d) := by
  rw [handleSample, h]
  simp only [referTo_trackStand v reel diameter]

/-- R76: the arm elsewhere or a low rate keeps the stand in ADVANCE. -/
theorem advanceSample_waits (web : v.web = true) (h : v.arm ≠ .pastePosition ∨ v.rate < 1000) : advanceSample n v s = s := by
  have waits : ¬(v.arm = .pastePosition ∧ 1000 ≤ v.rate) := fun ready => by
    rcases h with arm | rate
    · exact arm ready.1
    · omega
  simp [advanceSample, web, waits]

/-- R76, R81: with the arm at its place and a rate of at least 1000 the stand enters BRUSH. -/
theorem advanceSample_enters {mark : BitVec 12} (web : v.web = true) (arm : v.arm = .pastePosition) (rate : 1000 ≤ v.rate)
    (reel : (s.stand n).newReel = some q) (learned : q.mark = some mark) :
    advanceSample n v s =
      let t := (s.stand n).table
      let i := pasteInstant mark (pasteOffset t) (brushAngle t) (brushLatency t) v s.floor
      enterBrush n v i.1 i.2 s := by
  simp [advanceSample, web, arm, rate, reel, learned]

/-- R85: the knife time is the later of its two terms. -/
theorem knifeInstant_eq (contact : BitVec 32) (length speed : Nat) (floor : BitVec 32) :
    knifeInstant contact length speed floor =
      if 0 < (floor - (contact + BitVec.ofNat 32 (length * 100000 / max 1 speed))).toInt then floor
      else contact + BitVec.ofNat 32 (length * 100000 / max 1 speed) := by
  simp [knifeInstant, later, since]

/-- R45: applying a stand's pending load keeps every stand's state. -/
theorem settleStand_state (m : StandNo) : ((settleStand n s).stand m).state = (s.stand m).state := by
  obtain ⟨-, _, _, _, _, same⟩ := settleStand_stand s n m
  rw [same]

/-- R177: the splice flag, at bit 1 of the attention mask. -/
theorem raiseFlag_spliceDone :
    s.raiseFlag n .spliceDone =
      if s.responder.table[3].getLsbD 1 then
        s.onResponder fun r => { r with flags := r.flags.set n.val { r.flags[n.val] with spliceDone := true } }
      else s := rfl

/-- R82: without an increase of the confirm count the stand stays in BRUSH. -/
theorem brushSample_waits (web : v.web = true) (schedule : (s.stand n).schedule = some p)
    (same : p.confirmReference = some v.confirmCount) : brushSample n v s = s := by
  cases contact : p.contactTime <;> simp [brushSample, web, schedule, contact, increased, same]

/-- R82: an increase of the confirm count is the confirmation. -/
theorem brushSample_confirms {contact : BitVec 32} {k : BitVec 8} (web : v.web = true) (schedule : (s.stand n).schedule = some p)
    (instant : p.contactTime = some contact) (reference : p.confirmReference = some k) (more : v.confirmCount ≠ k) :
    brushSample n v s = confirmPaste n v contact s := by
  simp [brushSample, web, schedule, instant, increased, reference, more]

/-- R87: without an increase of the knife count the stand stays in CUT. -/
theorem cutSample_waits (web : v.web = true) (schedule : (s.stand n).schedule = some p)
    (same : p.knifeReference = some v.knifeCount) : cutSample n v s = s := by
  simp [cutSample, web, schedule, increased, same]

/-- R87: an increase of the knife count completes the splice. -/
theorem cutSample_completes {k : BitVec 8} (web : v.web = true) (schedule : (s.stand n).schedule = some p)
    (reference : p.knifeReference = some k) (more : v.knifeCount ≠ k) : cutSample n v s = completeSplice n v s := by
  simp [cutSample, web, schedule, increased, reference, more]

end

end Sys2Proof.Machine

namespace Sys2Proof.Proofs

open Sys2Proof.Machine

/-- Settles O45: the outcomes of the mark learning, each with the move to ADVANCE or without. -/
theorem pastingAdvanceEntry : Obligations.PastingAdvanceEntry := by
  intro s n v q d p fresh held accelerating reel diameter schedule web ready fast t ref count latch agrees handled enter
  have counted : p.counted t d v = count := rfl
  have run (u : State) (same : u.stand n = s.stand n) {mark : Option (BitVec 12)} {marks : Nat} {last : Option (BitVec 12)}
      (learnt : ∀ st : Stand, st.table = t → st.newReel = some q → st.schedule = some { p with matchCount := count } →
        st.learnMark v = st.judged q { p with matchCount := count } v mark marks last)
      (sound : ¬(q.mark = none ∧ mark = none ∧ v.markCount ≠ p.markReference ∧ markLimit t ≤ marks)) :
      handleSample n v u = if mark ≠ none ∧ t[14].toNat ≤ count then enterAdvance n (handled mark marks last u)
        else handled mark marks last u := by
    rw [handleSample_accelerating (by rw [same, accelerating]) web ready (by rwa [same]),
      accelerate_eq (count := count) (by rw [same, reel]) diameter (by rw [same, schedule]) (by rw [same])
        (by simpa only [same] using learnt), same, if_neg sound]
  have learned {a : BitVec 12} (mark : q.mark = some a) (st : Stand) (_ : st.table = t) (reel : st.newReel = some q)
      (schedule : st.schedule = some { p with matchCount := count }) :
      st.learnMark v = st.judged q { p with matchCount := count } v (some a) p.markCount p.lastMark :=
    Stand.learnMark_learned schedule reel mark
  have agreed {a : BitVec 12} (last : p.lastMark = some a) (open' : q.mark = none) (latch : latch) (near : agrees a) (st : Stand)
      (table : st.table = t) (reel : st.newReel = some q) (schedule : st.schedule = some { p with matchCount := count }) :
      st.learnMark v = st.judged q { p with matchCount := count } v (some v.markAngle) (p.markCount + 1) p.lastMark :=
    Stand.learnMark_agrees schedule reel open' latch last (table ▸ near)
  have advanced (next : s.nextIs (.sample n)) (enough : t[14].toNat ≤ count) {a : BitVec 12} {marks : Nat}
      {last : Option (BitVec 12)}
      (learnt : ∀ st : Stand, st.table = t → st.newReel = some q → st.schedule = some { p with matchCount := count } →
        st.learnMark v = st.judged q { p with matchCount := count } v (some a) marks last) :
      exec (.pastingAdvanceEntry n) s = .next (enter (handled (some a) marks last (s.dropDue (.sample n)))) := by
    have effect : handleSample n v (s.dropDue (.sample n)) = enter (handled (some a) marks last (s.dropDue (.sample n))) := by
      rw [run (s.dropDue (.sample n)) rfl learnt (fun h => Option.some_ne_none a h.2.1), if_pos ⟨Option.some_ne_none a, enough⟩]
      refine State.onStand_congr _ ?_
      simp [handled, Stand.onSchedule, addMs, t]
    have came : State.moves n .accelerating (.pasting .advance) s
        (enter (handled (some a) marks last (s.dropDue (.sample n)))) = true := by
      simp [State.moves, enter, accelerating]
    refine congrArg Host.Outcome.next ((comesAbout_sample next fresh held _).trans ?_)
    rw [effect, if_pos came]
  rw [perform_sample fresh held]
  refine ⟨fun next enough => ⟨fun a mark => advanced next enough (learned mark),
    fun a last open' latch near => advanced next enough (agreed last open' latch near)⟩, fun a mark few => ?_,
    fun open' quiet => ?_, fun a last open' latch near few => ?_, fun open' latch differs below => ?_⟩
  · rw [run s rfl (learned mark) (fun h => by simp at h), if_neg fun h => absurd h.2 (Nat.not_le.2 few)]
  · rw [run s rfl (mark := none) (marks := p.markCount) (last := p.lastMark) ?_ fun h => quiet h.2.2.1, if_neg fun h => h.1 rfl]
    intro st _ reel schedule
    rw [Stand.learnMark_same schedule reel (Decidable.not_not.1 quiet), open']
  · rw [run s rfl (agreed last open' latch near) (fun h => by simp at h), if_neg fun h => absurd h.2 (Nat.not_le.2 few)]
  · rw [run s rfl (mark := none) (marks := p.markCount + 1) (last := some v.markAngle) ?_ fun h => absurd h.2.2.2 (Nat.not_le.2 below),
      if_neg fun h => h.1 rfl]
    intro st table reel schedule
    exact Stand.learnMark_differs schedule reel open' latch (table ▸ differs)

/-- Settles O46: the arm and the rate decide between BRUSH and ADVANCE. -/
theorem pasteInstant : Obligations.PasteInstant := by
  intro s n v q d fresh held advance reel diameter web t
  constructor
  · intro m p next learned schedule arm rate floor i
    have effect : handleSample n v (s.dropDue (.sample n)) = enterBrush n v i.1 i.2 ((s.dropDue (.sample n)).referred n v d) := by
      rw [handleSample_advance (s := s.dropDue _) advance reel diameter,
        advanceSample_enters web arm rate (by simpa using reel) learned]
      simp only [State.onStand_stand_self]
      rfl
    have came : State.moves n (.pasting .advance) (.pasting .brush) s
        (enterBrush n v i.1 i.2 ((s.dropDue (.sample n)).referred n v d)) = true := by
      simp [State.moves, enterBrush, advance]
    refine congrArg Host.Outcome.next ((comesAbout_sample next fresh held _).trans ?_)
    rw [effect, if_pos came]
    refine State.onStand_congr _ ?_
    simp [Stand.onSchedule, schedule, confirmWindow, revolutionTime, t]
  · intro waits
    rw [perform_sample fresh held, handleSample_advance advance reel diameter, advanceSample_waits web waits]

/-- Settles O47: the confirm count decides between CUT and BRUSH. -/
theorem pasteConfirm : Obligations.PasteConfirm := by
  intro s n v q d p k fresh held brush reel diameter schedule reference web t
  constructor
  · intro contact next instant more floor first knife
    have effect : handleSample n v (s.dropDue (.sample n)) = confirmPaste n v contact ((s.dropDue (.sample n)).referred n v d) := by
      rw [handleSample_brush (s := s.dropDue _) brush reel diameter,
        brushSample_confirms web (by simpa using schedule) instant reference more]
    have came : State.moves n (.pasting .brush) (.pasting .cut) s
        (confirmPaste n v contact ((s.dropDue (.sample n)).referred n v d)) = true := by
      simp [State.moves, confirmPaste, enterCut, brush]
    refine congrArg Host.Outcome.next ((comesAbout_sample next fresh held _).trans ?_)
    have group : ((s.dropDue (.sample n)).referred n v d).groupOf n = s.groupOf n := by simp [State.groupOf]
    have instants : knifeInstant contact (knifeLength (((s.dropDue (.sample n)).referred n v d).stand n).table) v.webSpeed
        ((s.dropDue (.sample n)).referred n v d).floor = knife := by
      rw [knifeInstant_eq, State.onStand_stand_self, State.onStand_stand_self]
      rfl
    rw [effect, if_pos came, confirmPaste, instants, appendEntry, group, enterCut]
    have appended : ((s.dropDue (.sample n)).referred n v d).onGroup (s.groupOf n) (fun g =>
          { g with
            tracker := g.tracker ++
              [{ stand := n, ident := (((s.dropDue (.sample n)).referred n v d).stand n).newReel.bind (·.ident)
                 contactTime := contact, contactLength := contactLength v.length v.webSpeed contact v.time
                 forced := (((s.dropDue (.sample n)).referred n v d).stand n).forced
                 holdsLock := ((s.dropDue (.sample n)).referred n v d).holdsLock n, next := 0, rejectIssued := false
                 copies := none }]
            holder := if g.holder = .stand n then .entry n else g.holder }) =
        ((s.dropDue (.sample n)).referred n v d).onGroup (s.groupOf n) (fun g =>
          { g with
            tracker := g.tracker ++
              [{ stand := n, ident := q.ident, contactTime := contact
                 contactLength := v.length + BitVec.ofInt 32 ((v.webSpeed * (contact - v.time).toInt).tdiv 100000)
                 forced := (s.stand n).forced, holdsLock := decide (g.holder = .stand n), next := 0, rejectIssued := false
                 copies := none }]
            holder := if g.holder = .stand n then .entry n else g.holder }) := by
      refine State.onGroup_congr _ ?_
      simp [reel, State.holdsLock, group, contactLength, since]
      rfl
    refine (congrArg _ appended).trans (State.onStand_congr _ ?_)
    simp [Stand.onSchedule, schedule]
  · rintro rfl
    rw [perform_sample fresh held, handleSample_brush brush reel diameter, brushSample_waits web (by simpa using schedule) reference]

/-- Settles O48: the knife count decides between RUNNING and CUT. -/
theorem spliceCompletion : Obligations.SpliceCompletion := by
  intro s n v q p k fresh held cut reel schedule reference web
  constructor
  · intro next more done
    have tracked : completeSplice n v (referTo n v (trackStand n v (s.dropDue (.sample n)))) =
        settleStand n (done.raiseFlag n .spliceDone) := by
      rw [completeSplice, referTo, trackStand, State.onStand_onStand, State.onStand_onStand]
      refine congrArg (settleStand n ·) (congrArg (State.raiseFlag n .spliceDone ·) (congrArg (State.standEvent .spliceDone n ·) ?_))
      exact State.onStand_congr _ (by simp [reel, splicedReel])
    have effect : handleSample n v (s.dropDue (.sample n)) = settleStand n (done.raiseFlag n .spliceDone) := by
      rw [handleSample, State.dropDue_stand, cut]
      exact (cutSample_completes web (by simpa [referTo, trackStand] using schedule) reference more).trans tracked
    have came : State.moves n (.pasting .cut) .running s (settleStand n (done.raiseFlag n .spliceDone)) = true := by
      simp [State.moves, cut, settleStand_state, done]
    refine congrArg Host.Outcome.next ((comesAbout_sample next fresh held _).trans ?_)
    rw [effect, if_pos came, raiseFlag_spliceDone]
    simp [done]
  · rintro d diameter rfl
    rw [perform_sample fresh held, handleSample, cut]
    simp only [referTo_trackStand v reel diameter]
    exact cutSample_waits web (by simpa using schedule) reference

end Sys2Proof.Proofs
end

section
/-!
PROOFS. How a stand leaves a splice or its feeding: the deadlines, the faults at a sample, the low reel, the loss of the web and the speed
abort (R26 to R31, R39, R77, R83, R88).
-/

namespace Sys2Proof.Machine

variable {s : State} {n : StandNo}

/-! ### A grant reaches waiting stands alone (R97, R99) -/

/-- R97: a grant goes to an eligible stand. -/
theorem eligible_of_grantee {g : GroupNo} {m : StandNo} (h : s.grantee g = some m) : s.eligible g m = true := by
  unfold State.grantee at h
  split at h
  · exact (List.mem_filter.1 (smallestKey_least s _ m h).1).2
  · simp at h

/-- R99: a grant changes the stand that it goes to. -/
theorem grantTo_stand_ne {g : GroupNo} {m : StandNo} (h : m ≠ n) : (grantTo g m s).stand n = s.stand n := by
  simp [grantTo, enterAccelerating, State.onStand_stand_ne _ _ _ _ h]

/-- R97: the consideration of a grant leaves a stand that does not wait. -/
theorem considerGrant_stand {g : GroupNo} (h : (s.group g).waiting[n.val] = false) : (considerGrant g s).stand n = s.stand n := by
  unfold considerGrant
  split
  · next m chosen =>
    refine grantTo_stand_ne ?_
    rintro rfl
    have waits := ((s.eligible_iff g m).1 (eligible_of_grantee chosen)).1
    simp [h] at waits
  · rfl

/-- R143: what follows a release leaves a stand that does not wait. -/
theorem settleReleased_stand {g : GroupNo} (h : (s.group g).waiting[n.val] = false) :
    (settleReleased g s).stand n = s.stand n := by
  have settled (u : State) : (settleGroup g u).stand n = u.stand n := by simp [State.stand]
  rw [settleReleased, settled]
  split
  · exact considerGrant_stand (s := s.dropDue _) h
  · rfl

/-! ### Entry to FAULT (R29) -/

/-- R29: the items that the entry to FAULT writes. -/
abbrev Stand.faultItems (c : FaultCode) (st : Stand) : Stand :=
  { st with
    state := .fault, faultCode := some c, urgent := false, forced := false, schedule := none
    rotation := if c = .knifeFail then .hold else .brake
    rotationRef := 0, arm := .retract, brushAt := none, knifeAt := none }

/-- R29: the entry to FAULT keeps the waiting sets. -/
theorem State.faulted_waiting (c : FaultCode) (g : GroupNo) : ((s.faulted n c).group g).waiting = (s.group g).waiting := by
  have groups (u : State) : (u.loadReleased n).group g = u.group g := by simp only [State.group, State.loadReleased_groups]
  simp only [State.faulted, groups, State.onStand_group]
  by_cases same : s.groupOf n = g
  · subst same
    split <;> split <;> simp
  · split <;> split <;> simp [State.onGroup_group_ne _ _ _ _ same]

/-- R29: what the entry to FAULT writes over does not matter to it. -/
theorem State.faulted_onStand {c : FaultCode} {f : Stand → Stand}
    (h : (f (s.stand n)).faultItems c = (s.stand n).faultItems c) : (s.onStand n f).faulted n c = s.faulted n c := by
  have table : (f (s.stand n)).table = (s.stand n).table := by simpa using congrArg Stand.table h
  have group : (s.onStand n f).groupOf n = s.groupOf n := by simp [State.groupOf, table]
  have written (u : State) (same : u.stand n = s.stand n) : (u.onStand n f).onStand n (Stand.faultItems c) =
      u.onStand n (Stand.faultItems c) := by
    rw [State.onStand_onStand]
    exact u.onStand_congr (by rw [same]; exact h)
  refine congrArg (State.loadReleased · n) ?_
  rw [group]
  show (if (s.group (s.groupOf n)).holder = .stand n then _ else _ : State).onStand n (Stand.faultItems c) =
    (if (s.group (s.groupOf n)).holder = .stand n then _ else _ : State).onStand n (Stand.faultItems c)
  rw [State.onStand_takeEvent, State.onStand_responder, State.onStand_onResponder, ← apply_ite (State.onStand n f)]
  rw [State.onStand_onGroup, State.onStand_takeEvent, ← apply_ite (State.onStand n f)]
  refine written _ ?_
  split <;> split <;> simp

/-- R29: the entry to FAULT, from a state in which the stand differs in what the entry writes over. -/
theorem enterFault_onStand {c : FaultCode} {f : Stand → Stand} (h : (f (s.stand n)).faultItems c = (s.stand n).faultItems c) :
    enterFault n c (s.onStand n f) = settleReleased (s.groupOf n) (s.faulted n c) := by
  have table : (f (s.stand n)).table = (s.stand n).table := by simpa using congrArg Stand.table h
  have group : (s.onStand n f).groupOf n = s.groupOf n := by simp [State.groupOf, table]
  rw [enterFault_eq, State.faulted_onStand h, group]

/-- R29: the entry to FAULT of a stand with no wait leaves it in FAULT with the code. -/
theorem faults_enterFault {source : StandState} {c : FaultCode} (source' : (s.stand n).state = source) {u : State}
    (waits : (u.group (u.groupOf n)).waiting[n.val] = false) : State.faults n source c s (enterFault n c u) = true := by
  rw [enterFault_eq, State.faults, State.moves, settleReleased_stand (by rw [State.faulted_waiting]; exact waits),
    State.faulted_state, State.faulted_faultCode, source']
  simp

/-! ### The deadlines (R26, R77, R83, R88) -/

section

variable {p : PasteSchedule}

/-- A deadline row whose deadline is reached. -/
theorem comesAbout_fault {c : FaultCode} {source : StandState} {came : State → State → Bool} (next : s.nextIs (.deadline n))
    (waits : (s.group (s.groupOf n)).waiting[n.val] = false) (from' : (s.stand n).state = source)
    (work : deadlineWork n (s.dropDue (.deadline n)) = enterFault n c (s.dropDue (.deadline n)))
    (test : ∀ u, State.faults n source c s u = true → came s u = true) :
    comesAbout (.deadline n) came s = settleReleased (s.groupOf n) ((s.dropDue (.deadline n)).faulted n c) := by
  have came : came s (enterFault n c (s.dropDue (.deadline n))) = true := test _ (faults_enterFault from' waits)
  rw [comesAbout_next next, perform, work, if_pos came, enterFault_eq]
  rfl

/-- A deadline row whose deadline is not reached. -/
theorem comesAbout_noFault {source : StandState} {came : State → State → Bool} (next : s.nextIs (.deadline n))
    (from' : (s.stand n).state ≠ .fault) (work : deadlineWork n (s.dropDue (.deadline n)) = s.dropDue (.deadline n))
    (test : ∀ u, came s u = true → State.moves n source .fault s u = true) : comesAbout (.deadline n) came s = s := by
  rw [comesAbout_next next, perform, work, if_neg]
  intro h
  have moved := test _ h
  simp [State.moves, from'] at moved

end

/-! ### REEL_LOW and the loss of the web (R28, R39) -/

section

variable {v : StandSample}

/-- R39: the reel of the tracked stand is at or below the forced margin, and not yet reported. -/
abbrev State.lowReel (s : State) (n : StandNo) (v : StandSample) (r : ExpiringReel) (e : Estimate) : Prop :=
  (s.stand n).expiring = some r ∧ r.lowReported = false ∧
    (trackReel r (coreDiameter (s.stand n).table) (spliceDiameter (s.stand n).table) v).estimate = some e ∧
    e.length ≤ (s.stand n).table[8].toNat * 10000

/-- R39: a low reel is the one that REEL_LOW reports. -/
theorem reelLow_tracked (d : Nat) :
    ((s.reelTracked n v).stand n).reelLow = some d ↔ ∃ r e, s.lowReel n v r e ∧ e.diameter = d := by
  rw [reelTracked_self]
  unfold Stand.reelLow State.lowReel
  cases expiring : (s.stand n).expiring with
  | none => simp
  | some r =>
    cases estimate : (trackReel r (coreDiameter (s.stand n).table) (spliceDiameter (s.stand n).table) v).estimate with
    | none => simp [estimate]
    | some e =>
      by_cases near : e.length ≤ (s.stand n).table[8].toNat * 10000 <;> cases low : r.lowReported <;>
        simp [estimate, low, forcedMargin, near]

/-- R39: without a low reel nothing is reported. -/
theorem reportReelLow_idle (h : ∀ r e, ¬s.lowReel n v r e) : reportReelLow n (s.reelTracked n v) = s.reelTracked n v := by
  have none : ((s.reelTracked n v).stand n).reelLow = none := by
    refine Option.eq_none_iff_forall_ne_some.2 fun d low => ?_
    obtain ⟨r, e, low, -⟩ := (reelLow_tracked d).1 low
    exact h r e low
  simp only [reportReelLow, none]

/-- R39: a low reel is reported once, with its diameter. -/
theorem reportReelLow_low {r : ExpiringReel} {e : Estimate} (h : s.lowReel n v r e) :
    reportReelLow n (s.reelTracked n v) =
      (s.onStand n fun st =>
        { st with
          expiring := some { trackReel r (coreDiameter (s.stand n).table) (spliceDiameter (s.stand n).table) v with
            lowReported := true } }).takeEvent .reelLow (some n) none (some e.diameter) := by
  have low := (reelLow_tracked e.diameter).2 ⟨r, e, h, rfl⟩
  simp only [reportReelLow, low]
  rw [State.onStand_takeEvent, State.onStand_onStand, State.onStand_takeEvent]
  exact State.onStand_congr _ (by simp [h.1])

/-- R28: the loss of the web, once the stand has left its gauge or its waiting set. -/
abbrev State.webLost (s : State) (n : StandNo) : State :=
  settleStand n ((s.onStand n fun st => { st with state := .parked }).takeEvent .webLost (some n) none none)

theorem loseWeb_plain (h : (s.stand n).state ∈ [StandState.running, .loaded, .ready]) : loseWeb n s = s.webLost n := by
  simp only [List.mem_cons, List.not_mem_nil, or_false] at h
  rcases h with h | h | h <;> simp only [loseWeb, h] <;> rfl

theorem loseWeb_ranging (h : (s.stand n).state = .ranging) : loseWeb n s = (leaveGauge n s).webLost n := by
  simp only [loseWeb, h]
  rfl

theorem loseWeb_waiting (h : (s.stand n).state = .waiting) : loseWeb n s = (withdrawWait n s).webLost n := by
  simp only [loseWeb, h]
  rfl

/-- R39, R28: a sample of a stand without a usable new reel. -/
theorem handleSample_watch (h : (s.stand n).state ∈ [StandState.running, .loaded, .ranging]) :
    handleSample n v s =
      if v.web then reportReelLow n (s.reelTracked n v) else loseWeb n (reportReelLow n (s.reelTracked n v)) := by
  simp only [List.mem_cons, List.not_mem_nil, or_false] at h
  cases web : v.web <;> rcases h with h | h | h <;> simp [handleSample, h, handleSample.watch, web, trackStand_eq]

/-- R39: the report keeps the stand's state and table, and the groups. -/
theorem reportReelLow_stand : ((reportReelLow n s).stand n).state = (s.stand n).state ∧
    ((reportReelLow n s).stand n).table = (s.stand n).table ∧ (reportReelLow n s).now = s.now := by
  unfold reportReelLow
  split <;> simp

/-- R27: the speed abort. -/
theorem abortForSpeed_eq :
    abortForSpeed n s =
      settleReleased (s.groupOf n) (settleStand n
        (((if (s.group (s.groupOf n)).holder = .stand n then
          (s.onGroup (s.groupOf n) fun g => { g with holder := .none }).takeEvent .lockReleased (some n)
            (some (.group (s.groupOf n))) none
          else s).onStand n fun st =>
          { st with
            state := .ready, forced := false, rotation := .brake, rotationRef := 0, schedule := none, brushAt := none
            knifeAt := none }).takeEvent .speedAbort (some n) none none)) := by
  rw [abortForSpeed, stopNewReel, giveBackLock_eq s rfl rfl, State.onStand_onStand]
  rfl

end

end Sys2Proof.Machine

namespace Sys2Proof.Proofs

open Sys2Proof.Machine

/-- Settles O49: the deadline of each state and phase, reached or not. -/
theorem deadlinesFault : Obligations.DeadlinesFault := by
  intro s n p next schedule waits reaches faults
  have moves {source : StandState} {c : FaultCode} (u : State) (h : State.faults n source c s u = true) :
      State.moves n source .fault s u = true := (Bool.and_eq_true_iff.1 h).1
  have past {d : BitVec 32} (reached : reaches d) : (s.dropDue (.deadline n)).past (some d) = true := decide_eq_true reached
  have ahead {d : BitVec 32} (early : ¬reaches d) : (s.dropDue (.deadline n)).past (some d) = false := decide_eq_false early
  refine ⟨fun state => ⟨fun reached => ?_, fun early => ?_⟩, fun d deadline state => ⟨fun reached => ?_, fun early => ?_⟩,
    fun d deadline state => ⟨fun reached => ?_, fun early => ?_⟩, fun k knife state => ⟨fun reached => ?_, fun early => ?_⟩⟩
  · refine congrArg Host.Outcome.next (comesAbout_fault next waits state ?_ fun u h => h)
    simp [deadlineWork, state, schedule, past reached]
  · refine congrArg Host.Outcome.next (comesAbout_noFault next (by simp [state]) ?_ moves)
    simp [deadlineWork, state, schedule, ahead early]
  · refine congrArg Host.Outcome.next (comesAbout_fault next waits state ?_ fun u h => h)
    simp [deadlineWork, state, schedule, deadline, past reached]
  · refine congrArg Host.Outcome.next (comesAbout_noFault next (by simp [state]) ?_ moves)
    simp [deadlineWork, state, schedule, deadline, ahead early]
  · refine congrArg Host.Outcome.next (comesAbout_fault next waits state ?_ moves)
    simp [deadlineWork, state, schedule, deadline, past reached, confirmFault]
    rfl
  · refine congrArg Host.Outcome.next (comesAbout_noFault next (by simp [state]) ?_ fun u h => h)
    simp [deadlineWork, state, schedule, deadline, ahead early]
  · refine congrArg Host.Outcome.next (comesAbout_fault next waits state ?_ fun u h => h)
    simp [deadlineWork, state, schedule, knife, addMs, past reached]
  · refine congrArg Host.Outcome.next (comesAbout_noFault next (by simp [state]) ?_ moves)
    simp [deadlineWork, state, schedule, knife, addMs, ahead early]

/-- Settles O50: each fault enters FAULT from the tracked state. -/
theorem sampleFaults : Obligations.SampleFaults := by
  intro s n v fresh held st t faults
  have tracked {c : FaultCode} {u : State} (work : handleSample n v s = enterFault n c u)
      (same : enterFault n c u = settleReleased ((s.reelTracked n v).groupOf n) ((s.reelTracked n v).faulted n c)) : faults c := by
    rw [reelTracked_groupOf] at same
    exact (perform_sample fresh held).trans (work.trans same)
  refine ⟨fun state web => ?_, fun state web ready => ?_, fun p q state web ready fast schedule reel open' latch differs limit => ?_⟩
  · have referred : enterFault n .webLost (referTo n v (trackStand n v s)) =
        settleReleased ((s.reelTracked n v).groupOf n) ((s.reelTracked n v).faulted n .webLost) := enterFault_onStand rfl
    simp only [List.mem_cons, List.not_mem_nil, or_false] at state
    rcases state with state | state | state | state
    · refine tracked ?_ (enterFault_eq (s.reelTracked n v) n .webLost)
      simp [handleSample, show (s.stand n).state = _ from state, acceleratingSample, web, trackStand_eq]
    · exact tracked (by simp [handleSample, show (s.stand n).state = _ from state, advanceSample, web]) referred
    · exact tracked (by simp [handleSample, show (s.stand n).state = _ from state, brushSample, web]) referred
    · exact tracked (by simp [handleSample, show (s.stand n).state = _ from state, cutSample, web]) referred
  · refine tracked ?_ (enterFault_eq (s.reelTracked n v) n .driveFail)
    simp [handleSample, show (s.stand n).state = _ from state, acceleratingSample, web, ready, trackStand_eq]
  · obtain ⟨count, matching⟩ := testMatch_eq (s := referTo n v (s.reelTracked n v)) (n := n) (p := p) v
      (by simpa [referTo] using schedule)
    have differs : ∀ a, p.lastMark = some a → ¬v.agrees t a := fun a last => Nat.not_le.2 (differs a last)
    have judged := accelerate_judged (q := q) (p := p) (count := count) (mark := none) (marks := p.markCount + 1)
      (last := some v.markAngle) (by simpa [referTo] using reel) matching fun x table newReel schedule =>
        Stand.learnMark_differs schedule newReel open' latch (by
          simp only [table, referTo, State.onStand_stand_self]
          exact differs)
    rw [if_pos ⟨open', rfl, latch, by simpa [referTo] using limit⟩] at judged
    refine tracked ((handleSample_accelerating state web ready fast).trans judged) ?_
    rw [referTo, State.onStand_onStand]
    refine enterFault_onStand ?_
    have reel' : (s.stand n).newReel = some { q with mark := none } := by rw [show (s.stand n).newReel = some q from reel, ← open']
    simp [Stand.faultItems, reel']

/-- Settles O51: the low reel, the loss of the web and the speed abort, each from the tracked state. -/
theorem sampleExits : Obligations.SampleExits := by
  intro s n v fresh held t tracked low reported lost left
  have sample := perform_sample fresh held
  have kept := reportReelLow_stand (s := s.reelTracked n v) (n := n)
  have idle (none : ∀ r e, ¬low r e) : reportReelLow n tracked = tracked := reportReelLow_idle none
  have taken (r : ExpiringReel) (e : Estimate) (reel : low r e) : reportReelLow n tracked = reported r e := reportReelLow_low reel
  refine ⟨fun state web => ?_, fun state web => ?_, fun g state gauge web => ?_, fun state web => ?_, fun state web => ?_,
    fun state web ready slow => ?_⟩
  · have work : perform (.sample n) s = reportReelLow n tracked := by rw [sample, handleSample_watch state, if_pos web]
    exact ⟨fun none => work.trans (idle none), fun r e reel => work.trans (taken r e reel)⟩
  · have work : perform (.sample n) s = lost (reportReelLow n tracked) := by
      rw [sample, handleSample_watch (by rcases List.mem_pair.1 state with e | e <;> simp [e]), web]
      refine loseWeb_plain ?_
      rw [kept.1]
      rcases List.mem_pair.1 state with e | e <;> simp [e]
    exact ⟨fun none => work.trans (congrArg lost (idle none)), fun r e reel => work.trans (congrArg lost (taken r e reel))⟩
  · have work : perform (.sample n) s = lost (left g (reportReelLow n tracked)) := by
      obtain ⟨ranging, table, now⟩ := kept
      rw [sample, handleSample_watch (by simp [state]), web]
      refine (loseWeb_ranging (ranging.trans (by simpa using state))).trans ?_
      rw [leaveGauge_eq (g := g) (by rw [table]; simpa using gauge), now]
      rfl
    exact ⟨fun none => work.trans (congrArg (fun u => lost (left g u)) (idle none)),
      fun r e reel => work.trans (congrArg (fun u => lost (left g u)) (taken r e reel))⟩
  · rw [sample, handleSample, state]
    simp only [web, Bool.not_false, if_true]
    exact loseWeb_plain (by simp [trackStand, state])
  · rw [sample, handleSample, state]
    simp only [web, Bool.not_false, if_true]
    rw [loseWeb_waiting (by simpa [trackStand] using state), withdrawWait, leaveWaiting, trackStand_eq, reelTracked_groupOf]
  · rw [sample, handleSample, state]
    simp only [acceleratingSample, web, ready, Bool.not_true, Bool.false_eq_true, if_false]
    rw [if_pos (by simpa [trackStand] using slow), abortForSpeed_eq, trackStand_eq, reelTracked_groupOf]
    rfl

end Sys2Proof.Proofs
end

section
/-!
PROOFS. The gauge's rows (R116 to R122): start, result, end of a cancel and the two timeouts.
-/

namespace Sys2Proof.Machine

section

variable {s : State} {g : GaugeNo} {v : GaugeSample}

/-- R122: applying a gauge's pending load keeps the gauge's state. -/
theorem settleGauge_state : ((settleGauge g s).gauge g).state = (s.gauge g).state := by
  obtain ⟨-, _, _, _, _, same⟩ := settleGauge_gauge s g g
  rw [same]

/-- R118 to R121: the gauge that becomes IDLE is in IDLE. -/
theorem becomeIdle_state : ((becomeIdle g s).gauge g).state = .idle := by
  rw [becomeIdle, settleGauge_state, State.onGauge_gauge_self]

/-- A gauge's row whose event comes about. -/
theorem comesAbout_gauge {w : Work} {source target : Nat} {t : State} (next : s.nextIs w) (work : perform w (s.dropDue w) = t)
    (before : gaugeOrder (s.gauge g).state = source) (after : gaugeOrder (t.gauge g).state = target) :
    comesAbout w (State.gaugeMoves g source target) s = t := by
  have came : State.gaugeMoves g source target s t = true := by simp [State.gaugeMoves, before, after]
  rw [comesAbout_next next, work, if_pos came]

/-- A gauge's row whose event does not come about. -/
theorem comesAbout_gaugeIdle {w : Work} {source target : Nat} (next : s.nextIs w) (work : perform w (s.dropDue w) = s.dropDue w)
    (stays : gaugeOrder (s.gauge g).state ≠ target) : comesAbout w (State.gaugeMoves g source target) s = s := by
  have came : ¬State.gaugeMoves g source target s (s.dropDue w) = true := by simp [State.gaugeMoves, stays]
  rw [comesAbout_next next, work, if_neg came]

/-- R118: the result piece at an accepted sample of a MEASURING gauge. -/
theorem perform_result_measuring {n : StandNo} {deadline : BitVec 32} (fresh : .gauge g ∈ s.frame.fresh)
    (held : (s.gauge g).monitor.held = some v) (measuring : (s.gauge g).state = .measuring n deadline) :
    perform (.result g) s = if v.completed = (s.gauge g).sequence then becomeIdle g (judgeResult g n v s) else s := by
  simp only [perform, State.accepted, List.contains_iff_mem, fresh, if_true, gaugeResultWork, held, measuring]

/-- R120: the result piece at an accepted sample of a CANCELLING gauge. -/
theorem perform_result_cancelling {deadline : BitVec 32} (fresh : .gauge g ∈ s.frame.fresh)
    (held : (s.gauge g).monitor.held = some v) (cancelling : (s.gauge g).state = .cancelling deadline) :
    perform (.result g) s = if v.busy then s else becomeIdle g s := by
  simp only [perform, State.accepted, List.contains_iff_mem, fresh, if_true, gaugeResultWork, held, cancelling]

/-- R117: the start piece at an accepted sample. -/
theorem perform_start (fresh : .gauge g ∈ s.frame.fresh) (held : (s.gauge g).monitor.held = some v) :
    perform (.start g) s = if (s.gauge g).state == .idle && !v.busy then startMeasure g s else s := by
  simp only [perform, State.accepted, List.contains_iff_mem, fresh, if_true, gaugeStartWork, held]

/-- R118: an accepted result lies above the core and within 15000. -/
theorem acceptedDiameter_eq {t : StandTable} {d : Int} (h : convertDistance (gaugeReference t) v.distance = d) :
    acceptedDiameter t v =
      if v.valid = true ∧ (coreDiameter t : Int) + 1 ≤ d ∧ d ≤ 15000 then some d.toNat else none := by
  subst h
  simp only [acceptedDiameter, Bool.and_eq_true, decide_eq_true_eq]

/-- R177: the range flag, at bit 2 of the attention mask. -/
theorem raiseFlag_rangeResult {n : StandNo} :
    s.raiseFlag n .rangeResult =
      if s.responder.table[3].getLsbD 2 then
        s.onResponder fun r => { r with flags := r.flags.set n.val { r.flags[n.val] with rangeResult := true } }
      else s := rfl

end

end Sys2Proof.Machine

namespace Sys2Proof.Proofs

open Sys2Proof.Machine

/-- Settles O52: each row by the piece in which its event comes about. -/
theorem gaugeRows : Obligations.GaugeRows := by
  refine ⟨fun s g v fresh held => ⟨fun n rest queue next idle free => ?_, fun next idle barred => ?_,
    fun n deadline measuring next other => ?_, fun n deadline measuring next done => ?_, fun deadline cancelling next => ?_⟩,
    fun s g deadline next => ?_⟩
  · refine congrArg Host.Outcome.next (comesAbout_gauge next ?_ (by simp [idle, gaugeOrder]) (by simp [gaugeOrder]))
    rw [perform_start (s := s.dropDue _) fresh held, if_pos (by simp [idle, free])]
    exact State.onGauge_congr _ (by simp [queue, addMs])
  · refine congrArg Host.Outcome.next (comesAbout_gaugeIdle next ?_ (by simp [idle, gaugeOrder]))
    rw [perform_start (s := s.dropDue _) fresh held]
    rcases barred with busy | empty
    · simp [busy]
    · split
      · exact State.onGauge_same _ (by simp [empty])
      · rfl
  · refine congrArg Host.Outcome.next (comesAbout_gaugeIdle next ?_ (by simp [measuring, gaugeOrder]))
    exact (perform_result_measuring (s := s.dropDue _) fresh held measuring).trans (if_neg other)
  · intro t d fits idle
    have row {u : State} (judged : judgeResult g n v (s.dropDue (.result g)) = settleStand n u) :
        exec (.gaugeResult g) s = .next (idle u) := by
      refine congrArg Host.Outcome.next (comesAbout_gauge next ?_ (by simp [measuring, gaugeOrder]) ?_)
      · refine (perform_result_measuring (s := s.dropDue _) fresh held measuring).trans ((if_pos done).trans ?_)
        rw [judged]
        rfl
      · rw [show (idle u).gauge g = (becomeIdle g (settleStand n u)).gauge g from rfl, becomeIdle_state]
        rfl
    have accepted : acceptedDiameter ((s.dropDue (.result g)).stand n).table v = if fits then some d.toNat else none :=
      acceptedDiameter_eq rfl
    refine ⟨fun good => ?_, fun bad => row ?_⟩
    · intro ended
      rw [if_pos good] at accepted
      refine row ?_
      simp only [judgeResult, accepted, raiseFlag_rangeResult]
      simp [ended]
    · rw [if_neg bad] at accepted
      simp only [judgeResult, accepted]
  · refine ⟨fun free => ?_, fun busy => ⟨?_, ?_⟩⟩
    · refine congrArg Host.Outcome.next (comesAbout_gauge next ?_ (by simp [cancelling, gaugeOrder]) ?_)
      · exact (perform_result_cancelling (s := s.dropDue _) fresh held cancelling).trans (if_neg (by simp [free]))
      · exact congrArg gaugeOrder becomeIdle_state
    · exact (perform_result_cancelling fresh held cancelling).trans (if_pos busy)
    · refine congrArg Host.Outcome.next (comesAbout_gaugeIdle next ?_ (by simp [cancelling, gaugeOrder]))
      exact (perform_result_cancelling (s := s.dropDue _) fresh held cancelling).trans (if_pos busy)
  · intro reached
    have past (h : reached) : Machine.reached (s.dropDue (.timeout g)).now deadline = true := decide_eq_true h
    have ahead (h : ¬reached) : Machine.reached (s.dropDue (.timeout g)).now deadline = false := decide_eq_false h
    refine ⟨fun n measuring => ⟨fun late => ?_, fun early => ?_⟩, fun cancelling => ⟨fun late => ?_, fun early => ?_⟩⟩
    · refine congrArg Host.Outcome.next (comesAbout_gauge next ?_ (by simp [measuring, gaugeOrder])
        (congrArg gaugeOrder becomeIdle_state))
      simp only [perform, gaugeDeadlineWork, State.dropDue_gauge, measuring, past late, if_true]
      rfl
    · refine congrArg Host.Outcome.next (comesAbout_gaugeIdle next ?_ (by simp [measuring, gaugeOrder]))
      simp only [perform, gaugeDeadlineWork, State.dropDue_gauge, measuring, ahead early, Bool.false_eq_true, if_false]
    · refine congrArg Host.Outcome.next (comesAbout_gauge next ?_ (by simp [cancelling, gaugeOrder]) ?_)
      · simp only [perform, gaugeDeadlineWork, State.dropDue_gauge, cancelling, past late, if_true]
        rfl
      · rw [settleGauge_state]
        simp [gaugeOrder]
    · refine congrArg Host.Outcome.next (comesAbout_gaugeIdle next ?_ (by simp [cancelling, gaugeOrder]))
      simp only [perform, gaugeDeadlineWork, State.dropDue_gauge, cancelling, ahead early, Bool.false_eq_true, if_false]

end Sys2Proof.Proofs
end

section
/-!
PROOFS. The tracker's rows (R129 to R138): the HOLD checkpoints, the reject point, the clearance point and the missed test.
-/

namespace Sys2Proof.Machine

/-! ### The stand's entry (R125) -/

section

variable {s t : State} {g : GroupNo} {n : StandNo} {e : Entry}

/-- R125: in a list with one entry a stand, an entry of the stand is the one found. -/
theorem Group.entryOf_eq_some {u : Group} (one : (u.tracker.map (·.stand)).Nodup) (inside : e ∈ u.tracker) (stand : e.stand = n) :
    u.entryOf n = some e := by
  unfold Group.entryOf
  cases found : u.tracker.find? (·.stand == n) with
  | none => exact absurd stand (by simpa using List.find?_eq_none.1 found e inside)
  | some a =>
    have same : a.stand = n := by simpa using List.find?_some found
    rw [List.inj_on_of_nodup_map one (List.mem_of_find?_eq_some found) inside (same.trans stand.symm)]

/-- R125: the entry found is one of the list, of the stand. -/
theorem Group.mem_of_entryOf {u : Group} (h : u.entryOf n = some e) : e ∈ u.tracker ∧ e.stand = n :=
  ⟨List.mem_of_find?_eq_some h, by simpa using List.find?_some h⟩

/-- R125: no entry is found where the list holds none of the stand. -/
theorem Group.entryOf_eq_none {u : Group} : u.entryOf n = none ↔ ∀ x ∈ u.tracker, x.stand ≠ n := by
  simp [Group.entryOf]

/-- R125: the group found is the first whose list holds an entry of the stand. -/
theorem State.entryOf_eq_some :
    s.entryOf n = some (g, e) ↔ (s.group g).entryOf n = some e ∧
      ∃ before after, List.finRange 4 = before ++ g :: after ∧ ∀ h ∈ before, (s.group h).entryOf n = none := by
  unfold State.entryOf
  rw [List.findSome?_eq_some_iff]
  constructor
  · rintro ⟨before, h, after, split, found, first⟩
    obtain ⟨x, entry, pair⟩ := Option.map_eq_some_iff.1 found
    obtain ⟨rfl, rfl⟩ := Prod.mk.inj pair
    exact ⟨entry, before, after, split, fun h inside => Option.map_eq_none_iff.1 (first h inside)⟩
  · rintro ⟨found, before, after, split, first⟩
    exact ⟨before, g, after, split, by simp [found], fun h inside => by simp [first h inside]⟩

/-- R125: in sound lists an entry of the stand is the one found. -/
theorem State.entryOf_of_mem (sound : s.trackersSound) (inside : e ∈ (s.group g).tracker) (stand : e.stand = n) :
    s.entryOf n = some (g, e) := by
  obtain ⟨lists, one, -⟩ := sound
  have found := Group.entryOf_eq_some (lists g).1 inside stand
  rw [State.entryOf_eq_some]
  obtain ⟨before, after, split⟩ := List.append_of_mem (List.mem_finRange g)
  refine ⟨found, before, after, split, fun h earlier => ?_⟩
  by_contra other
  have same := one g h n (by simp [found]) (Option.isSome_iff_ne_none.2 other)
  have distinct := List.nodup_finRange 4
  rw [split, List.nodup_append] at distinct
  exact distinct.2.2 h earlier g List.mem_cons_self same.symm

/-- R125: the entry found depends on the lists alone. -/
theorem State.entryOf_congr (h : ∀ g, (t.group g).tracker = (s.group g).tracker) (n : StandNo) : t.entryOf n = s.entryOf n := by
  simp only [State.entryOf, Group.entryOf, h]

/-- R127: that a stand has an entry depends on the lists alone. -/
theorem State.hasEntry_congr (h : ∀ g, (t.group g).tracker = (s.group g).tracker) (n : StandNo) : t.hasEntry n = s.hasEntry n := by
  rw [Bool.eq_iff_iff, State.hasEntry_iff, State.hasEntry_iff]
  simp only [h]

variable {f : Entry → Entry}

/-- The group after its stand's entry is changed. -/
theorem onEntry_group : ((onEntry g n f s).group g) =
    { s.group g with tracker := (s.group g).tracker.map fun e => if e.stand = n then f e else e } := by
  simp [onEntry]

/-- R125: a change of the stand's entry that keeps its stand is found again in its list. -/
theorem onEntry_entryOf (keeps : ∀ x, (f x).stand = x.stand) (h : GroupNo) :
    ((onEntry g n f s).group h).entryOf n = if g = h then ((s.group h).entryOf n).map f else (s.group h).entryOf n := by
  split
  · next same =>
    subst same
    rw [onEntry_group]
    unfold Group.entryOf
    rw [List.find?_map]
    have test : ((fun x : Entry => x.stand == n) ∘ fun e => if e.stand = n then f e else e) = fun x => x.stand == n := by
      funext x
      by_cases own : x.stand = n <;> simp [own, keeps]
    rw [test]
    cases found : (s.group g).tracker.find? (·.stand == n) with
    | none => rfl
    | some a =>
      have own : a.stand = n := by simpa using List.find?_some found
      simp [own]
  · next other => rw [onEntry, State.onGroup_group_ne _ _ _ _ other]

/-- R125: a change of the stand's entry that keeps its stand is found again. -/
theorem State.entryOf_onEntry (keeps : ∀ x, (f x).stand = x.stand) (found : s.entryOf n = some (g, e)) :
    (onEntry g n f s).entryOf n = some (g, f e) := by
  rw [State.entryOf_eq_some] at found ⊢
  obtain ⟨own, before, after, split, first⟩ := found
  refine ⟨by rw [onEntry_entryOf keeps]; simp [own], before, after, split, fun h earlier => ?_⟩
  rw [onEntry_entryOf keeps]
  split <;> simp [first h earlier]

/-- R125: the group's list holds this entry of the stand and no other. -/
structure State.OneEntry (s : State) (g : GroupNo) (n : StandNo) (e : Entry) : Prop where
  stand : e.stand = n
  inside : e ∈ (s.group g).tracker
  only : ∀ x ∈ (s.group g).tracker, x.stand = n → x = e

theorem State.OneEntry.of_sound (sound : s.trackersSound) (inside : e ∈ (s.group g).tracker) (stand : e.stand = n) :
    s.OneEntry g n e where
  stand := stand
  inside := inside
  only _ other own := List.inj_on_of_nodup_map (sound.1 g).1 other inside (own.trans stand.symm)

theorem State.OneEntry.found (h : s.OneEntry g n e) : (s.group g).entryOf n = some e := by
  cases found : (s.group g).entryOf n with
  | none => exact absurd h.stand (Group.entryOf_eq_none.1 found e h.inside)
  | some x =>
    obtain ⟨inside, stand⟩ := Group.mem_of_entryOf found
    rw [h.only x inside stand]

theorem State.OneEntry.onEntry (h : s.OneEntry g n e) (keeps : (f e).stand = e.stand) :
    (onEntry g n f s).OneEntry g n (f e) where
  stand := keeps.trans h.stand
  inside := by
    rw [onEntry_group]
    exact List.mem_map.2 ⟨e, h.inside, if_pos h.stand⟩
  only x inside own := by
    rw [onEntry_group] at inside
    obtain ⟨y, member, rfl⟩ := List.mem_map.1 inside
    split at own
    · next stand => rw [if_pos stand, h.only y member stand]
    · next stand => exact absurd own stand

/-- R125: a change of the stand's entry is known by what it makes of that entry. -/
theorem State.OneEntry.onEntry_congr {k : Entry → Entry} (h : s.OneEntry g n e) (same : f e = k e) :
    Machine.onEntry g n f s = Machine.onEntry g n k s := by
  refine s.onGroup_congr ?_
  have lists : ((s.group g).tracker.map fun x => if x.stand = n then f x else x) =
      (s.group g).tracker.map fun x => if x.stand = n then k x else x := by
    refine List.map_congr_left fun x member => ?_
    by_cases own : x.stand = n
    · rw [if_pos own, if_pos own, h.only x member own, same]
    · rw [if_neg own, if_neg own]
  rw [lists]

/-- Two changes of the stand's entry. -/
theorem onEntry_onEntry {k : Entry → Entry} (keeps : ∀ x, (f x).stand = x.stand) :
    onEntry g n k (onEntry g n f s) = onEntry g n (fun x => k (f x)) s := by
  simp only [onEntry, State.onGroup_onGroup, List.map_map]
  refine s.onGroup_congr ?_
  have both : ((fun x : Entry => if x.stand = n then k x else x) ∘ fun x => if x.stand = n then f x else x) =
      fun x => if x.stand = n then k (f x) else x := by
    funext x
    by_cases own : x.stand = n <;> simp [own, keeps]
  rw [both]

/-! ### HOLD checkpoints (R130, R131) -/

/-- R131: the windows of the checkpoints from one on, in path order. -/
abbrev windowsFrom (p : PathEntries) (first count : Nat) : List (Nat × Nat) :=
  (List.range count).map fun i => (holdSlot p (first + i), holdWindow p (first + i))

/-- R131: windows are prepared in path order. -/
theorem windowsFrom_succ (p : PathEntries) (first count : Nat) :
    windowsFrom p first (count + 1) = (holdSlot p first, holdWindow p first) :: windowsFrom p (first + 1) count := by
  simp [windowsFrom, List.range_succ_eq_map, Function.comp_def, Nat.add_assoc, Nat.add_comm 1]

/-- R131: the entry's checkpoint `c` is a HOLD checkpoint that the count has reached. -/
abbrev Entry.holdReached (e : Entry) (p : PathEntries) (count : BitVec 32) (c : Nat) : Prop :=
  c < checkpointCount p ∧ isHold p c = true ∧ 0 ≤ (count - (e.contactLength + BitVec.ofNat 32 (pathLength p c))).toInt

/-- R131: the test of the entry's next checkpoint. -/
theorem holdReached_iff (e : Entry) (p : PathEntries) (count : BitVec 32) :
    (e.atHold p && reached count (holdPoint p e e.next)) = true ↔ e.holdReached p count e.next := by
  have count : reached count (holdPoint p e e.next) = true ↔
      0 ≤ (count - (e.contactLength + BitVec.ofNat 32 (pathLength p e.next))).toInt := decide_eq_true_iff
  simp only [Entry.atHold, Bool.and_eq_true, decide_eq_true_eq, and_assoc, count]

/-- R130: where the next checkpoint is not reached, the HOLD checkpoints are done. -/
theorem passHolds_stop {count : BitVec 32} (fuel : Nat) (found : (s.group g).entryOf n = some e)
    (h : ¬e.holdReached (s.path n).table count e.next) : passHolds g n count fuel s = s := by
  cases fuel with
  | zero => rfl
  | succ fuel =>
    simp only [passHolds, found]
    rw [if_neg (by rw [holdReached_iff]; exact h)]

/-- R130, R131: one HOLD checkpoint passed. -/
theorem passHolds_next {count : BitVec 32} (fuel : Nat) (found : (s.group g).entryOf n = some e)
    (h : e.holdReached (s.path n).table count e.next) :
    passHolds g n count (fuel + 1) s =
      passHolds g n count fuel (onEntry g n (fun e => { e with next := e.next + 1 }) (prepareWindow (s.path n).table e.next s)) := by
  simp only [passHolds, found]
  rw [if_pos ((holdReached_iff ..).2 h)]

/-- R130, R131: all the HOLD checkpoints reached are passed, with their windows in path order. -/
theorem passHolds_eq {count : BitVec 32} {fuel more : Nat} (one : s.OneEntry g n e) (bound : more + 1 ≤ fuel)
    (passed : ∀ c, e.next ≤ c → c < e.next + (more + 1) → e.holdReached (s.path n).table count c)
    (last : ¬e.holdReached (s.path n).table count (e.next + (more + 1)) ∨ more + 1 = fuel) :
    passHolds g n count fuel s =
      onEntry g n (fun x => { x with next := e.next + (more + 1) })
        { s with windows := s.windows ++ windowsFrom (s.path n).table e.next (more + 1) } := by
  induction fuel generalizing s e more with
  | zero => omega
  | succ fuel ih =>
    rw [passHolds_next fuel one.found (passed _ le_rfl (by omega)), windowsFrom_succ]
    have one' : (onEntry g n (fun e => { e with next := e.next + 1 }) (prepareWindow (s.path n).table e.next s)).OneEntry g n
        { e with next := e.next + 1 } :=
      State.OneEntry.onEntry (s := prepareWindow _ _ s) (f := fun e => { e with next := e.next + 1 }) ⟨one.stand, one.inside, one.only⟩ rfl
    cases more with
    | zero =>
      have stopped : passHolds g n count fuel
          (onEntry g n (fun e => { e with next := e.next + 1 }) (prepareWindow (s.path n).table e.next s)) =
          onEntry g n (fun e => { e with next := e.next + 1 }) (prepareWindow (s.path n).table e.next s) := by
        rcases last with stop | full
        · exact passHolds_stop fuel one'.found stop
        · obtain rfl : fuel = 0 := by omega
          rfl
      rw [stopped]
      exact State.OneEntry.onEntry_congr (s := prepareWindow _ _ s) ⟨one.stand, one.inside, one.only⟩ rfl
    | succ more =>
      have shift : e.next + 1 + (more + 1) = e.next + (more + 1 + 1) := by omega
      rw [ih one' (more := more) (by omega) (fun c low high => passed c (Nat.le_of_succ_le low) (shift ▸ high)) ?_]
      · simp only [shift]
        refine Eq.trans (b := onEntry g n (fun x => { x with next := e.next + (more + 1 + 1) })
          (onEntry g n (fun e => { e with next := e.next + 1 })
            { s with
              windows := (s.windows ++ [(holdSlot (s.path n).table e.next, holdWindow (s.path n).table e.next)]) ++
                windowsFrom (s.path n).table (e.next + 1) (more + 1) })) rfl ?_
        refine (onEntry_onEntry (f := fun e => { e with next := e.next + 1 }) fun _ => rfl).trans ?_
        rw [List.append_assoc]
        rfl
      · rcases last with stop | full
        · exact .inl (by simp only [shift]; exact stop)
        · exact .inr (by omega)

/-! ### The pieces of an entry's handling -/

variable {v : StandSample}

/-- R130: the HOLD piece at an accepted sample of a stand with an entry. -/
theorem perform_holds (fresh : .stand n ∈ s.frame.fresh) (held : (s.stand n).monitor.held = some v)
    (found : s.entryOf n = some (g, e)) : perform (.holds n) s = passHolds g n v.length 4 s := by
  simp [perform, State.accepted, fresh, holdsWork, found, State.heldLength, held]

/-- R130, R133: the reject piece at an accepted sample of a stand with an entry. -/
theorem perform_reject (fresh : .stand n ∈ s.frame.fresh) (held : (s.stand n).monitor.held = some v)
    (found : s.entryOf n = some (g, e)) :
    perform (.reject n) s =
      if ¬(e.next < checkpointCount (s.path n).table ∧ isHold (s.path n).table e.next = true) ∧ e.rejectIssued = false ∧
          0 ≤ (v.length - rejectPointOf (s.path n).table (s.group g).table e).toInt then
        issueReject g n s
      else s := by
  have point : reached v.length (rejectPointOf (s.path n).table (s.group g).table e) =
      decide (0 ≤ (v.length - rejectPointOf (s.path n).table (s.group g).table e).toInt) := rfl
  have test : (!e.atHold (s.path n).table && !e.rejectIssued &&
        reached v.length (rejectPointOf (s.path n).table (s.group g).table e)) = true ↔
      ¬(e.next < checkpointCount (s.path n).table ∧ isHold (s.path n).table e.next = true) ∧ e.rejectIssued = false ∧
        0 ≤ (v.length - rejectPointOf (s.path n).table (s.group g).table e).toInt := by
    rw [point]
    simp only [Entry.atHold, Bool.and_eq_true, Bool.not_eq_true', decide_eq_true_eq, and_assoc, Bool.and_eq_false_iff,
      decide_eq_false_iff_not, not_and_or, Bool.not_eq_true]
  simp only [perform, State.accepted, List.contains_iff_mem, fresh, if_true, rejectWork, found, State.heldLength, held,
    Option.map_some, test]

/-- R130, R136: the clearance piece at an accepted sample of a stand with an entry. -/
theorem perform_clear (fresh : .stand n ∈ s.frame.fresh) (held : (s.stand n).monitor.held = some v)
    (found : s.entryOf n = some (g, e)) :
    perform (.clear n) s =
      if e.rejectIssued = true ∧ 0 ≤ (v.length - clearancePointOf (s.path n).table (s.group g).table e).toInt then
        removeEntry g n e.holdsLock s
      else s := by
  have point : reached v.length (clearancePointOf (s.path n).table (s.group g).table e) =
      decide (0 ≤ (v.length - clearancePointOf (s.path n).table (s.group g).table e).toInt) := rfl
  simp only [perform, State.accepted, List.contains_iff_mem, fresh, if_true, clearWork, found, State.heldLength, held,
    Option.map_some, point, Bool.and_eq_true, decide_eq_true_eq]

/-- R138: the missed test of a stand with an entry and a held sample. -/
theorem perform_recover (recovery : s.frame.recovery = true) (held : (s.stand n).monitor.held = some v)
    (found : s.entryOf n = some (g, e)) :
    perform (.recover n) s =
      if e.rejectIssued = false ∧ 0 ≤ (v.length - rejectPointOf (s.path n).table (s.group g).table e).toInt then
        removeMissed g n e.holdsLock s
      else s := by
  have point : reached v.length (rejectPointOf (s.path n).table (s.group g).table e) =
      decide (0 ≤ (v.length - rejectPointOf (s.path n).table (s.group g).table e).toInt) := rfl
  simp only [perform, recovery, if_true, recoverWork, found, State.heldLength, held, Option.map_some, point, Bool.and_eq_true,
    Bool.not_eq_true', decide_eq_true_eq]

/-! ### The reject order (R133, R134) -/

/-- R133: the copies that an entry orders, by their formula. -/
theorem State.copiesFor_eq (s : State) (g : GroupNo) (n : StandNo) :
    s.copiesFor g n =
      max ((preMargin (s.group g).table + (s.stand n).table[25].toNat + postMargin (s.group g).table
          + cutoff (s.group g).table - 1) / cutoff (s.group g).table)
        (match (s.group g).monitor.held with | some c => c | none => 0) := by
  unfold State.copiesFor copiesOrdered rejectCopies divUp spliceExtent
  cases (s.group g).monitor.held <;> rfl

/-- R134: one reject order a frame. -/
theorem issueReject_eq {copies : Nat} (count : s.copiesFor g n = copies) :
    issueReject g n s =
      (s.takeEvent .rejectIssued (some n) (some (.group g)) (some copies)).onGroup g fun u =>
        { u with
          tracker := u.tracker.map fun x => if x.stand = n then { x with rejectIssued := true, copies := some copies } else x
          orderNumber := if u.orderPrepared then u.orderNumber else u.orderNumber + 1
          copyCount := if u.orderPrepared then max u.copyCount copies else copies
          orderPrepared := true } := by
  simp only [issueReject, count, prepareReject, onEntry, State.onGroup_takeEvent, State.onGroup_onGroup]
  refine State.onGroup_congr _ ?_
  cases prepared : (s.group g).orderPrepared <;> simp [prepared]

/-! ### Removal (R136, R138) -/

/-- R97, R143: what follows a release keeps the lists. -/
theorem settleReleased_tracker (h : GroupNo) : ((settleReleased g s).group h).tracker = (s.group h).tracker := by
  have settled (u : State) : ((settleGroup g u).group h).tracker = (u.group h).tracker := by
    obtain ⟨-, _, _, _, _, same⟩ := settleGroup_group u g h
    rw [same]
  have granted (u : State) : ((considerGrant g u).group h).tracker = (u.group h).tracker := by
    unfold considerGrant grantTo enterAccelerating
    split
    · by_cases same : g = h
      · subst same; simp
      · simp [State.onGroup_group_ne _ _ _ _ same]
    · rfl
  rw [settleReleased, settled]
  split
  · rw [granted, State.dropDue_group]
  · rfl

/-- R136: the lists after an entry is removed. -/
theorem removeEntry_tracker (holds : Bool) (h : GroupNo) :
    ((removeEntry g n holds s).group h).tracker =
      if g = h then (s.group h).tracker.filter (·.stand != n) else (s.group h).tracker := by
  have path (u : State) : (settlePath n u).group h = u.group h := by simp [State.group]
  rw [removeEntry, settleReleased_tracker, path]
  by_cases same : g = h
  · subst same
    cases holds <;> simp [releaseLock]
  · cases holds <;> simp [releaseLock, same, State.onGroup_group_ne _ _ _ _ same]

/-- R127, R136: a stand whose entry is removed has none. -/
theorem hasEntry_removeEntry (holds : Bool) (sound : s.trackersSound) (inside : e ∈ (s.group g).tracker) (stand : e.stand = n) :
    (removeEntry g n holds s).hasEntry n = false := by
  refine (State.hasEntry_eq_false _ n).2 fun h x member own => ?_
  rw [removeEntry_tracker] at member
  by_cases same : g = h
  · rw [if_pos same] at member
    simpa [own] using (List.mem_filter.1 member).2
  · rw [if_neg same] at member
    have mine := State.OneEntry.of_sound sound inside stand
    have other := State.OneEntry.of_sound sound member own
    exact same (sound.2.1 g h n (by simp [mine.found]) (by simp [other.found]))

/-- R133: the entry found after its reject is issued has it issued. -/
theorem entryOf_issueReject (found : s.entryOf n = some (g, e)) :
    ∃ x, (issueReject g n s).entryOf n = some (g, x) ∧ x.rejectIssued = true := by
  refine ⟨{ e with rejectIssued := true, copies := some (s.copiesFor g n) }, ?_, rfl⟩
  rw [← State.entryOf_onEntry (f := fun x => { x with rejectIssued := true, copies := some (s.copiesFor g n) }) (fun _ => rfl) found]
  refine State.entryOf_congr (fun h => ?_) n
  rw [issueReject_eq rfl]
  by_cases same : g = h
  · subst same
    simp [onEntry]
  · simp [onEntry, State.onGroup_group_ne _ _ _ _ same]

end

end Sys2Proof.Machine

namespace Sys2Proof.Proofs

open Sys2Proof.Machine

/-- Settles O53: the windows by the pass over the HOLD checkpoints, the order by the reject piece. -/
theorem entryPoints : Obligations.EntryPoints := by
  refine ⟨fun s n v g e stop next fresh held sound inside stand => ?_,
    fun s n v g e next fresh held sound inside stand open' => ?_, fun s n v g e fresh held sound inside stand => ?_⟩
  · intro p at_ more bound passed last
    have found := State.entryOf_of_mem (s := s.dropDue (.holds n)) sound inside stand
    have one := State.OneEntry.of_sound (s := s.dropDue (.holds n)) sound inside stand
    obtain ⟨k, rfl⟩ : ∃ k, stop = e.next + (k + 1) := ⟨stop - e.next - 1, by omega⟩
    have work := passHolds_eq (count := v.length) (fuel := 4) one (by omega) passed (last.imp id fun full => by omega)
    rw [← perform_holds (s := s.dropDue (.holds n)) fresh held found] at work
    refine congrArg Host.Outcome.next ((comesAbout_next next _).trans ?_)
    rw [work, if_pos]
    · rw [Nat.add_sub_cancel_left]
      rfl
    · simp [onEntry]
  · intro p t noHold past copies
    have found := State.entryOf_of_mem (s := s.dropDue (.reject n)) sound inside stand
    have notAtHold : ¬(e.next < checkpointCount p ∧ isHold p e.next = true) := by
      rintro ⟨inPath, hold⟩
      rcases noHold with beyond | folder
      · omega
      · simp [folder] at hold
    have work : perform (.reject n) (s.dropDue (.reject n)) = issueReject g n (s.dropDue (.reject n)) :=
      (perform_reject (s := s.dropDue _) fresh held found).trans (if_pos ⟨notAtHold, open', past⟩)
    have before : s.entryOf n = some (g, e) := found
    obtain ⟨x, after, issued⟩ := entryOf_issueReject found
    refine congrArg Host.Outcome.next ((comesAbout_next next _).trans ?_)
    rw [work, before, after]
    simp only [Option.any_some, open', issued, Bool.not_false, Bool.and_self, if_true]
    exact issueReject_eq (State.copiesFor_eq _ g n)
  · intro p atHold
    have found := State.entryOf_of_mem sound inside stand
    constructor
    · intro away
      rw [perform_holds fresh held found]
      refine passHolds_stop 4 (State.OneEntry.of_sound sound inside stand).found ?_
      rintro ⟨inPath, hold, reached⟩
      rcases away with none | short
      · exact none ⟨inPath, hold⟩
      · exact absurd reached (Int.not_le.2 short)
    · intro away
      rw [perform_reject fresh held found, if_neg]
      rintro ⟨noHold, open', reached⟩
      rcases away with hold | issued | short
      · exact noHold hold
      · simp [open'] at issued
      · exact absurd reached (Int.not_le.2 short)

/-- Settles O54: the two removals, and the entries that stay. -/
theorem entriesLeave : Obligations.EntriesLeave := by
  refine ⟨fun s n v g e fresh held sound inside stand => ?_, fun s n v g e recovery held sound inside stand => ?_⟩
  · intro p cleared left
    constructor
    · intro next due
      have found := State.entryOf_of_mem (s := s.dropDue (.clear n)) sound inside stand
      have work : perform (.clear n) (s.dropDue (.clear n)) = removeEntry g n e.holdsLock (s.dropDue (.clear n)) :=
        (perform_clear (s := s.dropDue _) fresh held found).trans (if_pos due)
      have before : s.hasEntry n = true := (s.hasEntry_iff n).2 ⟨g, e, inside, stand⟩
      have after := hasEntry_removeEntry (s := s.dropDue (.clear n)) e.holdsLock sound inside stand
      refine congrArg Host.Outcome.next ((comesAbout_next next _).trans ?_)
      rw [work, before, after]
      rfl
    · intro stays
      rw [perform_clear fresh held (State.entryOf_of_mem sound inside stand)]
      exact if_neg stays
  · intro p missed left
    have work := perform_recover recovery held (State.entryOf_of_mem sound inside stand)
    refine ⟨fun due => ?_, fun stays => work.trans (if_neg stays)⟩
    rw [work]
    exact (if_pos due).trans rfl

end Sys2Proof.Proofs
end

section
/-!
PROOFS. The judgement of an input field (R153, R161) and its STALE test (R162).
-/

namespace Sys2Proof.Machine

/-! ### What a judgement reaches -/

/-- R161: of the blocks, at most the unit of this field is changed. -/
structure OnField (f : InputField) (s t : State) : Prop where
  port : t.port = s.port
  paths : t.paths = s.paths
  windows : t.windows = s.windows
  out : t.out = s.out
  stands : ∀ m, f ≠ .stand m → t.stand m = s.stand m
  gauges : ∀ g, f ≠ .gauge g → t.gauge g = s.gauge g
  groups : ∀ g, f ≠ .folder g → t.group g = s.group g

section

variable {f : InputField} {s t u : State}

theorem OnField.refl (f : InputField) (s : State) : OnField f s s :=
  ⟨rfl, rfl, rfl, rfl, fun _ _ => rfl, fun _ _ => rfl, fun _ _ => rfl⟩

theorem OnField.trans (h : OnField f s t) (k : OnField f t u) : OnField f s u where
  port := k.port.trans h.port
  paths := k.paths.trans h.paths
  windows := k.windows.trans h.windows
  out := k.out.trans h.out
  stands m other := (k.stands m other).trans (h.stands m other)
  gauges g other := (k.gauges g other).trans (h.gauges g other)
  groups g other := (k.groups g other).trans (h.groups g other)

theorem OnField.onStand (n : StandNo) (k : Stand → Stand) : OnField (.stand n) s (s.onStand n k) :=
  ⟨rfl, rfl, rfl, rfl, fun m other => s.onStand_stand_ne n m k fun same => other (same ▸ rfl), fun _ _ => rfl, fun _ _ => rfl⟩

theorem OnField.onGauge (g : GaugeNo) (k : Gauge → Gauge) : OnField (.gauge g) s (s.onGauge g k) :=
  ⟨rfl, rfl, rfl, rfl, fun _ _ => rfl, fun m other => s.onGauge_gauge_ne g m k fun same => other (same ▸ rfl), fun _ _ => rfl⟩

theorem OnField.onGroup (g : GroupNo) (k : Group → Group) : OnField (.folder g) s (s.onGroup g k) :=
  ⟨rfl, rfl, rfl, rfl, fun _ _ => rfl, fun _ _ => rfl, fun m other => s.onGroup_group_ne g m k fun same => other (same ▸ rfl)⟩

theorem OnField.acceptField (f : InputField) (ws : List Word) (s : State) : OnField f s (acceptField f ws s) := by
  unfold Machine.acceptField
  cases f
  · exact .onStand _ _
  · exact .onGauge _ _
  · exact .onGroup _ _

theorem OnField.repeatField (f : InputField) (s : State) : OnField f s (repeatField f s) := by
  unfold Machine.repeatField
  cases f
  · exact .onStand _ _
  · exact .onGauge _ _
  · exact .onGroup _ _

theorem OnField.forgetField (f : InputField) (s : State) : OnField f s (forgetField f s) := by
  unfold Machine.forgetField
  cases f
  · exact .onStand _ _
  · exact .onGauge _ _
  · exact .onGroup _ _

theorem OnField.onFrame (f : InputField) (k : FrameWork → FrameWork) (s : State) : OnField f s (s.onFrame k) :=
  ⟨rfl, rfl, rfl, rfl, fun _ _ => rfl, fun _ _ => rfl, fun _ _ => rfl⟩

theorem OnField.fieldEvent (k : EventKind) (f : InputField) (s : State) : OnField f s (fieldEvent k f s) := by
  cases f <;> exact ⟨rfl, rfl, rfl, rfl, fun _ _ => rfl, fun _ _ => rfl, fun _ _ => rfl⟩

theorem OnField.takeField (f : InputField) (ws : List Word) (s : State) : OnField f s (takeField f ws s) := by
  unfold Machine.takeField
  refine .trans ?_ (.onFrame f _ _)
  split
  · exact (OnField.fieldEvent _ f s).trans (.acceptField f ws _)
  · exact .acceptField f ws s

theorem OnField.judgeField (f : InputField) (b : Option (List Word)) (s : State) : OnField f s (judgeField f b s) := by
  unfold Machine.judgeField
  split
  · split
    · exact .takeField ..
    · exact .repeatField ..
  · exact .repeatField ..

theorem OnField.judgeWork (f : InputField) (s : State) : OnField f s (judgeWork f s) := by
  unfold Machine.judgeWork
  split
  · next b _ =>
    have judged := (OnField.onFrame f (fun w => { w with handed := w.handed.filter (·.1 != f) }) s).trans (.judgeField f b _)
    simp only
    split
    · exact judged.trans (.forgetField f _)
    · exact judged
  · exact .refl f s

end

/-! ### The judgement by what the frame brought -/

section

variable {f : InputField} {s : State} {ws : List Word}

/-- R161: what the judgement of a field leaves before a move is taken into account. -/
abbrev State.handedOver (s : State) (f : InputField) : State :=
  s.onFrame fun w => { w with handed := w.handed.filter (·.1 != f) }

/-- R153, R161: the judgement of a field that the frame handed over. -/
theorem judgeWork_brought {b : Option (List Word)} (brought : s.frame.handed.find? (·.1 == f) = some (f, b)) :
    judgeWork f s =
      if f ∈ s.frame.moved then forgetField f (judgeField f b (s.handedOver f)) else judgeField f b (s.handedOver f) := by
  simp [judgeWork, State.broughtFor, brought]

/-- R161: a counter not seen before is accepted. -/
theorem judgeField_accepts {u : State} (new : u.historyAccepts f (freshnessOf ws) = true) :
    judgeField f (some ws) u = takeField f ws u := if_pos new

/-- R161: a counter that repeats, or a field beyond the frame. -/
theorem judgeField_repeats {u : State} {b : Option (List Word)}
    (h : (∃ ws, b = some ws ∧ u.historyAccepts f (freshnessOf ws) = false) ∨ b = none) : judgeField f b u = repeatField f u := by
  rcases h with ⟨ws, rfl, seen⟩ | rfl
  · simp [judgeField, seen]
  · rfl

/-- R161: an accepted field is in the list of the accepted ones. -/
theorem takeField_fresh : f ∈ (takeField f ws s).frame.fresh := by simp [takeField]

/-- R161: SAMPLES_FRESH is what the acceptance of a field adds to the responder. -/
theorem takeField_responder :
    (takeField f ws s).responder = if s.isStale f then (fieldEvent .samplesFresh f s).responder else s.responder := by
  have accepted (u : State) : (acceptField f ws u).responder = u.responder := by cases f <;> rfl
  simp only [takeField, State.onFrame_responder, accepted]
  split <;> rfl

/-- R153: a move leaves the record of the frame's work and the responder. -/
theorem forgetField_rest (f : InputField) (s : State) :
    (forgetField f s).frame = s.frame ∧ (forgetField f s).responder = s.responder := by
  cases f <;> exact ⟨rfl, rfl⟩

/-- R161: a repeat leaves the record of the frame's work and the responder. -/
theorem repeatField_rest (f : InputField) (s : State) :
    (repeatField f s).frame = s.frame ∧ (repeatField f s).responder = s.responder := by
  cases f <;> exact ⟨rfl, rfl⟩

/-- R161: what an accepted field leaves beside its unit's monitor. -/
theorem judgeWork_accepted (brought : s.frame.handed.find? (·.1 == f) = some (f, some ws))
    (new : s.historyAccepts f (freshnessOf ws) = true) :
    f ∈ (judgeWork f s).frame.fresh ∧
      (judgeWork f s).responder = if s.isStale f then (fieldEvent .samplesFresh f s).responder else s.responder := by
  have stale : (s.handedOver f).isStale f = s.isStale f := by cases f <;> rfl
  have event : (fieldEvent .samplesFresh f (s.handedOver f)).responder = (fieldEvent .samplesFresh f s).responder := by
    cases f <;> rfl
  have new : (s.handedOver f).historyAccepts f (freshnessOf ws) = true := by cases f <;> exact new
  have responder := takeField_responder (f := f) (ws := ws) (s := s.handedOver f)
  rw [stale, event] at responder
  rw [judgeWork_brought brought, judgeField_accepts new]
  split
  · obtain ⟨frame, same⟩ := forgetField_rest f (takeField f ws (s.handedOver f))
    rw [frame, same]
    exact ⟨takeField_fresh, responder⟩
  · exact ⟨takeField_fresh, responder⟩

/-- R161: what a repeated field leaves beside its unit's monitor. -/
theorem judgeWork_repeated {b : Option (List Word)} (brought : s.frame.handed.find? (·.1 == f) = some (f, b))
    (h : (∃ ws, b = some ws ∧ s.historyAccepts f (freshnessOf ws) = false) ∨ b = none) :
    (judgeWork f s).frame.fresh = s.frame.fresh ∧ (judgeWork f s).responder = s.responder := by
  have h : (∃ ws, b = some ws ∧ (s.handedOver f).historyAccepts f (freshnessOf ws) = false) ∨ b = none := by
    cases f <;> exact h
  obtain ⟨frame, same⟩ := repeatField_rest f (s.handedOver f)
  rw [judgeWork_brought brought, judgeField_repeats h]
  split
  · obtain ⟨frame', same'⟩ := forgetField_rest f (repeatField f (s.handedOver f))
    rw [frame', same', frame, same]
    exact ⟨rfl, rfl⟩
  · rw [frame, same]
    exact ⟨rfl, rfl⟩

/-- R161: the stand after its field is accepted. -/
theorem takeField_stand {n : StandNo} :
    (takeField (.stand n) ws s).stand n =
      { s.stand n with
        monitor := (s.stand n).monitor.accept (freshnessOf ws) (readStandSample ws s.now s.period) } := by
  simp only [takeField, acceptField, fieldEvent]
  split <;> simp

/-- R161: the gauge after its field is accepted. -/
theorem takeField_gauge {g : GaugeNo} :
    (takeField (.gauge g) ws s).gauge g =
      { s.gauge g with monitor := (s.gauge g).monitor.accept (freshnessOf ws) (readGaugeSample ws) } := by
  simp only [takeField, acceptField, fieldEvent]
  split <;> simp

/-- R161: the group after its folder field is accepted. -/
theorem takeField_group {g : GroupNo} :
    (takeField (.folder g) ws s).group g =
      { s.group g with monitor := (s.group g).monitor.accept (freshnessOf ws) (readFolderSample ws) } := by
  simp only [takeField, acceptField, fieldEvent]
  split <;> simp

/-- R153, R161: the monitor of a field that was judged by a counter and, moved, is read afresh. -/
theorem judgeWork_stand_accepted {n : StandNo} (brought : s.frame.handed.find? (·.1 == .stand n) = some (.stand n, some ws))
    (new : s.historyAccepts (.stand n) (freshnessOf ws) = true) :
    (judgeWork (.stand n) s).stand n =
      { s.stand n with
        monitor :=
          { history := if .stand n ∈ s.frame.moved then none else some (freshnessOf ws)
            held := some (readStandSample ws s.now s.period), staleCount := 0, stale := false } } := by
  rw [judgeWork_brought brought, judgeField_accepts (f := .stand n) (u := s.handedOver _) new]
  split <;> simp [forgetField, takeField_stand, Monitor.accept, movedMonitor]

theorem judgeWork_gauge_accepted {g : GaugeNo} (brought : s.frame.handed.find? (·.1 == .gauge g) = some (.gauge g, some ws))
    (new : s.historyAccepts (.gauge g) (freshnessOf ws) = true) :
    (judgeWork (.gauge g) s).gauge g =
      { s.gauge g with
        monitor :=
          { history := if .gauge g ∈ s.frame.moved then none else some (freshnessOf ws)
            held := some (readGaugeSample ws), staleCount := 0, stale := false } } := by
  rw [judgeWork_brought brought, judgeField_accepts (f := .gauge g) (u := s.handedOver _) new]
  split <;> simp [forgetField, takeField_gauge, Monitor.accept, movedMonitor]

theorem judgeWork_group_accepted {g : GroupNo} (brought : s.frame.handed.find? (·.1 == .folder g) = some (.folder g, some ws))
    (new : s.historyAccepts (.folder g) (freshnessOf ws) = true) :
    (judgeWork (.folder g) s).group g =
      { s.group g with
        monitor :=
          { history := if .folder g ∈ s.frame.moved then none else some (freshnessOf ws)
            held := if .folder g ∈ s.frame.moved then none else some (readFolderSample ws), staleCount := 0, stale := false } } := by
  rw [judgeWork_brought brought, judgeField_accepts (f := .folder g) (u := s.handedOver _) new]
  split <;> simp [forgetField, takeField_group, Monitor.accept, movedFolderMonitor]

/-- R153, R161: the monitor of a field that repeated and, moved, is read afresh. -/
theorem judgeWork_stand_repeated {n : StandNo} {b : Option (List Word)}
    (brought : s.frame.handed.find? (·.1 == .stand n) = some (.stand n, b))
    (h : (∃ ws, b = some ws ∧ s.historyAccepts (.stand n) (freshnessOf ws) = false) ∨ b = none) :
    (judgeWork (.stand n) s).stand n =
      { s.stand n with
        monitor :=
          { (s.stand n).monitor with
            history := if .stand n ∈ s.frame.moved then none else (s.stand n).monitor.history
            staleCount := min 255 ((s.stand n).monitor.staleCount + 1) } } := by
  rw [judgeWork_brought brought, judgeField_repeats (f := .stand n) (u := s.handedOver _) h]
  split <;> simp [forgetField, repeatField, Monitor.repeated, movedMonitor]

theorem judgeWork_gauge_repeated {g : GaugeNo} {b : Option (List Word)}
    (brought : s.frame.handed.find? (·.1 == .gauge g) = some (.gauge g, b))
    (h : (∃ ws, b = some ws ∧ s.historyAccepts (.gauge g) (freshnessOf ws) = false) ∨ b = none) :
    (judgeWork (.gauge g) s).gauge g =
      { s.gauge g with
        monitor :=
          { (s.gauge g).monitor with
            history := if .gauge g ∈ s.frame.moved then none else (s.gauge g).monitor.history
            staleCount := min 255 ((s.gauge g).monitor.staleCount + 1) } } := by
  rw [judgeWork_brought brought, judgeField_repeats (f := .gauge g) (u := s.handedOver _) h]
  split <;> simp [forgetField, repeatField, Monitor.repeated, movedMonitor]

theorem judgeWork_group_repeated {g : GroupNo} {b : Option (List Word)}
    (brought : s.frame.handed.find? (·.1 == .folder g) = some (.folder g, b))
    (h : (∃ ws, b = some ws ∧ s.historyAccepts (.folder g) (freshnessOf ws) = false) ∨ b = none) :
    (judgeWork (.folder g) s).group g =
      { s.group g with
        monitor :=
          { (s.group g).monitor with
            history := if .folder g ∈ s.frame.moved then none else (s.group g).monitor.history
            held := if .folder g ∈ s.frame.moved then none else (s.group g).monitor.held
            staleCount := min 255 ((s.group g).monitor.staleCount + 1) } } := by
  rw [judgeWork_brought brought, judgeField_repeats (f := .folder g) (u := s.handedOver _) h]
  split <;> simp [forgetField, repeatField, Monitor.repeated, movedFolderMonitor]

/-- R158: the arm position codes. -/
theorem armOf_eq (code : Nat) : (armOf code = .retracted ↔ code = 0) ∧ (armOf code = .pastePosition ↔ code = 2) := by
  unfold armOf
  split <;> simp_all

/-! ### The STALE test (R162) -/

/-- R162: the row of a field that becomes STALE. -/
theorem comesAbout_stale (next : s.nextIs (.stale f)) (old : f ∉ s.frame.fresh) (clear : s.isStale f = false)
    (tests : (s.dropDue (.stale f)).testsStale f = true) :
    exec (.samplesStale f) s = .next (becomeStale f (s.dropDue (.stale f))) := by
  have old : (s.dropDue (.stale f)).frame.fresh.contains f = false := by simpa using old
  have work : perform (.stale f) (s.dropDue (.stale f)) = becomeStale f (s.dropDue (.stale f)) := by
    simp only [perform, staleWork, old, tests, Bool.not_false, Bool.and_self, if_true]
  have set : (becomeStale f (s.dropDue (.stale f))).isStale f = true := by
    cases f <;> simp [becomeStale, fieldEvent, setStale, State.isStale]
  refine congrArg Host.Outcome.next ((comesAbout_next next _).trans ?_)
  rw [work, clear, set]
  rfl

/-- R162: a field whose stale count is above its limit, the condition clear. -/
theorem Monitor.becomesStale_of {α : Type} {m : Monitor α} {limit : Nat} (clear : m.stale = false) (above : limit < m.staleCount) :
    m.becomesStale limit = true := by
  simp [Monitor.becomesStale, clear, above]

/-- R177: the stale flag, at bit 3 of the attention mask. -/
theorem raiseFlag_stale {n : StandNo} :
    s.raiseFlag n .stale =
      if s.responder.table[3].getLsbD 3 then
        s.onResponder fun r => { r with flags := r.flags.set n.val { r.flags[n.val] with stale := true } }
      else s := rfl

/-- R162, R177: what a stand's field leaves that becomes STALE. -/
theorem becomeStale_stand {n : StandNo} :
    becomeStale (.stand n) s =
      let t := (s.onStand n fun st => { st with monitor := { st.monitor with stale := true } }).takeEvent .samplesStale (some n) none none
      if s.responder.table[3].getLsbD 3 then
        t.onResponder fun r => { r with flags := r.flags.set n.val { r.flags[n.val] with stale := true } }
      else t := by
  have mask : (fieldEvent .samplesStale (.stand n) (setStale (.stand n) s)).responder.table = s.responder.table :=
    State.takeEvent_table ..
  show (fieldEvent .samplesStale (.stand n) (setStale (.stand n) s)).raiseFlag n .stale = _
  rw [raiseFlag_stale, mask]
  rfl

end

end Sys2Proof.Machine

namespace Sys2Proof.Proofs

open Sys2Proof.Machine

/-- Settles O37: the judgement of each kind of field, by what the frame brought. -/
theorem fieldsJudged : Obligations.FieldsJudged := by
  intro s f ws due t moved counter brought repeats fresh
  have work : t = judgeWork f (s.dropDue (.judge f)) := takePiece_due (by simpa using due)
  have repeated {b : Option (List Word)} (handed : brought b)
      (h : (∃ ws, b = some ws ∧ (s.dropDue (.judge f)).historyAccepts f (freshnessOf ws) = false) ∨ b = none) :
      t.responder = s.responder ∧ t.frame.fresh = s.frame.fresh := by
    obtain ⟨accepted, responder⟩ := judgeWork_repeated (s := s.dropDue (.judge f)) handed h
    rw [← work] at accepted responder
    exact ⟨responder, accepted⟩
  have settled (history : Option (BitVec 4)) (holds : repeats history)
      (seen : history = some counter → (s.dropDue (.judge f)).historyAccepts f (freshnessOf ws) = false) :
      ∃ b, brought b ∧ ((∃ ws, b = some ws ∧ (s.dropDue (.judge f)).historyAccepts f (freshnessOf ws) = false) ∨ b = none) := by
    rcases holds with ⟨handed, same⟩ | handed
    · exact ⟨_, handed, .inl ⟨ws, rfl, seen same⟩⟩
    · exact ⟨_, handed, .inr rfl⟩
  have accepted (handed : brought (some ws)) (new : (s.dropDue (.judge f)).historyAccepts f (freshnessOf ws) = true) :
      f ∈ t.frame.fresh ∧ t.responder = if s.isStale f then (fieldEvent .samplesFresh f s).responder else s.responder := by
    obtain ⟨accepted, responder⟩ := judgeWork_accepted (s := s.dropDue (.judge f)) handed new
    rw [← work] at accepted responder
    have stale : (s.dropDue (.judge f)).isStale f = s.isStale f := by cases f <;> rfl
    have event : (fieldEvent .samplesFresh f (s.dropDue (.judge f))).responder = (fieldEvent .samplesFresh f s).responder := by
      cases f <;> rfl
    rw [stale, event] at responder
    exact ⟨accepted, responder⟩
  refine ⟨?_, fun n field => ?_, fun g field => ?_, fun g field => ?_⟩
  · rw [work]
    have only := OnField.judgeWork f (s.dropDue (.judge f))
    exact ⟨only.port, only.paths, only.windows, only.out, only.stands, only.gauges, only.groups⟩
  · subst field
    refine ⟨fun handed new => ⟨accepted handed (bne_iff_ne.2 new), readStandSample ws s.now s.period, ?_, rfl, rfl, rfl, rfl, rfl, rfl, rfl,
      rfl, rfl, rfl, rfl, rfl, rfl, rfl, (armOf_eq _).1, (armOf_eq _).2⟩, fun holds => ?_⟩
    · rw [work]
      exact judgeWork_stand_accepted (s := s.dropDue (.judge (.stand n))) handed (bne_iff_ne.2 new)
    · obtain ⟨b, handed, same⟩ := settled _ holds fun seen => bne_eq_false_iff_eq.2 seen
      obtain ⟨responder, list⟩ := repeated handed same
      rw [work] at responder list ⊢
      exact ⟨responder, list, judgeWork_stand_repeated (s := s.dropDue (.judge (.stand n))) handed same⟩
  · subst field
    refine ⟨fun handed new => ⟨accepted handed (bne_iff_ne.2 new), ?_⟩, fun holds => ?_⟩
    · rw [work]
      exact judgeWork_gauge_accepted (s := s.dropDue (.judge (.gauge g))) handed (bne_iff_ne.2 new)
    · obtain ⟨b, handed, same⟩ := settled _ holds fun seen => bne_eq_false_iff_eq.2 seen
      obtain ⟨responder, list⟩ := repeated handed same
      rw [work] at responder list ⊢
      exact ⟨responder, list, judgeWork_gauge_repeated (s := s.dropDue (.judge (.gauge g))) handed same⟩
  · subst field
    refine ⟨fun handed new => ⟨accepted handed (bne_iff_ne.2 new), ?_⟩, fun holds => ?_⟩
    · rw [work]
      exact judgeWork_group_accepted (s := s.dropDue (.judge (.folder g))) handed (bne_iff_ne.2 new)
    · obtain ⟨b, handed, same⟩ := settled _ holds fun seen => bne_eq_false_iff_eq.2 seen
      obtain ⟨responder, list⟩ := repeated handed same
      rw [work] at responder list ⊢
      exact ⟨responder, list, judgeWork_group_repeated (s := s.dropDue (.judge (.folder g))) handed same⟩

/-- Settles O38: the STALE test of each kind of field. -/
theorem samplesStale : Obligations.SamplesStale := by
  intro s
  refine ⟨fun n next old clear above => ⟨_, comesAbout_stale next old clear (Monitor.becomesStale_of clear above), ?_⟩,
    fun g next old clear above => comesAbout_stale next old clear (Monitor.becomesStale_of clear above),
    fun g next old clear above => comesAbout_stale next old clear (Monitor.becomesStale_of clear above)⟩
  rw [becomeStale_stand, State.dropDue_responder]
  by_cases mask : s.responder.table[3].getLsbD 3 = true
  · simp only [if_pos mask]
    exact ⟨rfl, rfl⟩
  · simp only [if_neg mask]
    exact ⟨rfl, rfl⟩

end Sys2Proof.Proofs
end

section
/-!
PROOFS. A sound state, part by part: what it says of each stand, each group and each gauge, and of the load that each table
holds pending. While a transition is under way, one stand may be left out of account (`hole`), and a load may wait at a table whose
condition holds it no longer (`waiting`); the transition's last steps mend both (R45, R122, R141, R143).
-/

namespace Sys2Proof.Machine

/-! ### A stand's part in its group and at its gauge -/

/-- R95, R96, R103, R113: the group in whose waiting set a stand is, the group whose lock it holds, and the gauge at which it queues or
is measured. -/
structure Role where
  waits : Option GroupNo
  holds : Option GroupNo
  ranges : Option GaugeNo

/-- The part that a stand has by its state and its forced mark. -/
def Stand.role (st : Stand) : Role where
  waits := if st.state = .waiting then some (groupEntry st.table) else none
  holds := if st.state.mayHold && !st.forced then some (groupEntry st.table) else none
  ranges := if st.state = .ranging then gaugeEntry st.table else none

/-- The groups and gauges give stand `n` this part. -/
structure Standing (s : State) (n : StandNo) (r : Role) : Prop where
  waits : ∀ g, (s.group g).waiting[n.val] = true ↔ r.waits = some g
  holds : ∀ g, (s.group g).holder = .stand n ↔ r.holds = some g
  ranges : ∀ g, n ∈ (s.gauge g).queue ∨ (s.gauge g).measures n = true ↔ r.ranges = some g

/-- R2, R3, R29, R68, R71, R92: a stand's records, marks, schedule and command values fit its state. -/
structure Stand.Fits (st : Stand) : Prop where
  records : st.recordsFit
  marks : st.marksFit
  schedule : st.scheduleFits
  command : st.commandFits

/-- R95, R96, R103, R113, R10, R41: what a sound state says of one stand. -/
structure StandSound (s : State) (n : StandNo) : Prop where
  fits : (s.stand n).Fits
  standing : Standing s n (s.stand n).role
  clear : (s.stand n).state.mayHold = true → s.hasEntry n = false
  gauged : (s.stand n).state = .ranging → (gaugeEntry (s.stand n).table).isSome = true
  ready : (s.stand n).state ≠ .offline → s.tablesReady n = true
  loadReady : ∀ l, (s.stand n).pendingLoad = some l → s.tablesOf (l.over (s.stand n).table) = true

/-- R125, R126: what a sound state says of one group, over the path tables. -/
structure Group.Sound (paths : StandNo → PathEntries) (u : Group) : Prop where
  holder : ∀ n, u.holder = .entry n ↔ ∃ e ∈ u.tracker, e.stand = n ∧ e.holdsLock = true
  once : (u.tracker.map (·.stand)).Nodup
  entries : ∀ e ∈ u.tracker, e.sound (paths e.stand)

/-- R114: what a sound state says of one gauge. -/
structure Gauge.Sound (u : Gauge) : Prop where
  once : u.queue.Nodup
  apart : ∀ n ∈ u.queue, u.measures n = false

/-- The entries of every path table. -/
def State.pathEntries (s : State) (n : StandNo) : PathEntries := (s.path n).table

/-- R125: the group's list holds an entry of the stand. -/
def Group.lists (u : Group) (n : StandNo) : Prop := ∃ e ∈ u.tracker, e.stand = n

/-- R45, R122, R141, R143: a table holds a load pending only while its condition holds it. -/
def State.pendingFits (s : State) : TableId → Prop
  | .part => True
  | .stand n => (s.stand n).pendingLoad.isSome = true → (s.stand n).state.defers = true
  | .path n => (s.path n).pendingLoad.isSome = true → s.hasEntry n = true
  | .group g => (s.group g).pendingLoad.isSome = true → (s.group g).holder ≠ .none ∨ (s.group g).tracker ≠ []
  | .gauge g => (s.gauge g).pendingLoad.isSome = true → (s.gauge g).state ≠ .idle

/-- A sound state, but for one stand and for the loads held pending by the tables of `waiting`. -/
structure SoundBut (hole : Option StandNo) (waiting : List TableId) (s : State) : Prop where
  stands : ∀ n, some n ≠ hole → StandSound s n
  groups : ∀ g, (s.group g).Sound s.pathEntries
  oneList : ∀ g h n, (s.group g).lists n → (s.group h).lists n → g = h
  gauges : ∀ g, (s.gauge g).Sound
  pending : ∀ id, id ∉ waiting → s.pendingFits id

/-! ### The parts are those of `State.Sound` -/

theorem Stand.role_waits {st : Stand} {g : GroupNo} :
    st.role.waits = some g ↔ st.state = .waiting ∧ groupEntry st.table = g := by
  simp [Stand.role]

theorem Stand.role_holds {st : Stand} {g : GroupNo} :
    st.role.holds = some g ↔ st.state.mayHold = true ∧ st.forced = false ∧ groupEntry st.table = g := by
  simp [Stand.role, and_assoc]

theorem Stand.role_ranges {st : Stand} {g : GaugeNo} :
    st.role.ranges = some g ↔ st.state = .ranging ∧ gaugeEntry st.table = some g := by
  simp [Stand.role]

theorem Group.entryOf_isSome (u : Group) (n : StandNo) : (u.entryOf n).isSome = true ↔ u.lists n := by
  simp [Group.entryOf, Group.lists]

theorem State.hasEntry_iff_lists (s : State) (n : StandNo) : s.hasEntry n = true ↔ ∃ g, (s.group g).lists n :=
  s.hasEntry_iff n

/-- R103: a stand's part in its group's lock. -/
theorem State.locks_iff (s : State) (n : StandNo) :
    ((∀ g, (s.group g).holder = .stand n → s.groupOf n = g ∧ (s.stand n).state.mayHold = true) ∧
      ((s.stand n).state.mayHold = true → (s.holdsLock n = !(s.stand n).forced) ∧ s.hasEntry n = false)) ↔
    (∀ g, (s.group g).holder = .stand n ↔ (s.stand n).role.holds = some g) ∧
      ((s.stand n).state.mayHold = true → s.hasEntry n = false) := by
  have lock : s.holdsLock n = true ↔ (s.group (s.groupOf n)).holder = .stand n := by simp [State.holdsLock]
  constructor
  · rintro ⟨own, may⟩
    refine ⟨fun g => ⟨fun h => ?_, fun h => ?_⟩, fun m => (may m).2⟩
    · obtain ⟨rfl, m⟩ := own g h
      have := (may m).1
      rw [lock.2 h] at this
      exact Stand.role_holds.2 ⟨m, by simpa using this.symm, rfl⟩
    · obtain ⟨m, unforced, rfl⟩ := Stand.role_holds.1 h
      exact lock.1 (by rw [(may m).1, unforced]; rfl)
  · rintro ⟨own, clear⟩
    refine ⟨fun g h => ?_, fun m => ⟨?_, clear m⟩⟩
    · obtain ⟨m, -, e⟩ := Stand.role_holds.1 ((own g).1 h)
      exact ⟨e, m⟩
    · have held := lock.trans (own (s.groupOf n))
      rw [Stand.role_holds] at held
      have : s.holdsLock n = true ↔ (s.stand n).forced = false := held.trans ⟨fun h => h.2.1, fun h => ⟨m, h, rfl⟩⟩
      cases e : (s.stand n).forced <;> cases k : s.holdsLock n <;> simp_all

/-- R113: a stand's part at its gauge. -/
theorem State.ranges_iff (s : State) (n : StandNo) :
    ((∀ g, n ∈ (s.gauge g).queue ∨ (s.gauge g).measures n = true →
        (s.stand n).state = .ranging ∧ gaugeEntry (s.stand n).table = some g) ∧
      ((s.stand n).state = .ranging → (gaugeEntry (s.stand n).table).any fun g =>
        (s.gauge g).queue.contains n || (s.gauge g).measures n)) ↔
    (∀ g, n ∈ (s.gauge g).queue ∨ (s.gauge g).measures n = true ↔ (s.stand n).role.ranges = some g) ∧
      ((s.stand n).state = .ranging → (gaugeEntry (s.stand n).table).isSome = true) := by
  constructor
  · rintro ⟨own, at_⟩
    refine ⟨fun g => ⟨fun h => Stand.role_ranges.2 (own g h), fun h => ?_⟩, fun r => ?_⟩
    · obtain ⟨r, e⟩ := Stand.role_ranges.1 h
      simpa [e] using at_ r
    · have := at_ r
      cases e : gaugeEntry (s.stand n).table <;> simp_all
  · rintro ⟨own, gauged⟩
    refine ⟨fun g h => Stand.role_ranges.1 ((own g).1 h), fun r => ?_⟩
    obtain ⟨g, e⟩ := Option.isSome_iff_exists.1 (gauged r)
    simpa [e] using (own g).2 (Stand.role_ranges.2 ⟨r, e⟩)

theorem State.sound_iff (s : State) : s.Sound ↔ SoundBut none [] s ∧ s.tablesSound ∧ s.foldersSound := by
  constructor
  · rintro ⟨stands, ⟨waits, own, may, entry⟩, ⟨lists, apart, entries⟩, ⟨once, own', behind, at_⟩, tables,
      ⟨ps, pp, pg, pu⟩, ⟨ready, loadReady⟩, folders⟩
    refine ⟨⟨fun n _ => ?_, fun g => ⟨fun n => ?_, (lists g).1, entries g⟩, fun g h n a b => ?_,
      fun g => ⟨once g, behind g⟩, fun id _ => ?_⟩, tables, folders⟩
    · obtain ⟨records, marks, schedule, command⟩ := stands n
      obtain ⟨holds, clear⟩ := (s.locks_iff n).1 ⟨fun g => own g n, may n⟩
      obtain ⟨ranges, gauged⟩ := (s.ranges_iff n).1 ⟨fun g => own' g n, at_ n⟩
      exact ⟨⟨records, marks, schedule, command⟩, ⟨fun g => (waits g n).trans Stand.role_waits.symm, holds, ranges⟩, clear,
        gauged, ready n, fun l e => by simpa [e] using loadReady n⟩
    · simpa using entry g n
    · exact apart g h n ((Group.entryOf_isSome ..).2 a) ((Group.entryOf_isSome ..).2 b)
    · cases id with
      | part => trivial
      | stand n => exact ps n
      | path n => exact pp n
      | group g => exact pg g
      | gauge g => exact pu g
  · rintro ⟨h, tables, folders⟩
    have stand n := h.stands n (by simp)
    have locks n := (s.locks_iff n).2 ⟨(stand n).standing.holds, (stand n).clear⟩
    have gauges n := (s.ranges_iff n).2 ⟨(stand n).standing.ranges, (stand n).gauged⟩
    refine ⟨fun n => ?_, ⟨fun g n => ((stand n).standing.waits g).trans Stand.role_waits, fun g n => (locks n).1 g,
      fun n => (locks n).2, fun g n => ?_⟩, ⟨fun g => ⟨(h.groups g).once, ?_⟩, fun g k n a b => ?_, fun g => (h.groups g).entries⟩,
      ⟨fun g => (h.gauges g).once, fun g n => (gauges n).1 g, fun g => (h.gauges g).apart, fun n => (gauges n).2⟩, tables,
      ⟨fun n => h.pending (.stand n) (by simp), fun n => h.pending (.path n) (by simp), fun g => h.pending (.group g) (by simp),
        fun g => h.pending (.gauge g) (by simp)⟩, ⟨fun n => (stand n).ready, fun n => ?_⟩, folders⟩
    · obtain ⟨records, marks, schedule, command⟩ := (stand n).fits
      exact ⟨records, marks, schedule, command⟩
    · simpa using (h.groups g).holder n
    · simpa using (h.groups g).once.length_le_card
    · exact h.oneList g k n ((Group.entryOf_isSome ..).1 a) ((Group.entryOf_isSome ..).1 b)
    · cases e : (s.stand n).pendingLoad with
      | none => rfl
      | some l => simpa using (stand n).loadReady l e

/-! ### What a change leaves of the stands that it does not touch -/

/-- What a stand sees of a group is as it was, but that its entry may be gone. -/
structure Group.Seen (n : StandNo) (u v : Group) : Prop where
  waits : v.waiting[n.val] = u.waiting[n.val]
  holds : v.holder = .stand n ↔ u.holder = .stand n
  lists : v.lists n → u.lists n

/-- What a stand sees of a gauge is as it was. -/
structure Gauge.Seen (n : StandNo) (u v : Gauge) : Prop where
  place : n ∈ v.queue ∨ v.measures n = true ↔ n ∈ u.queue ∨ u.measures n = true

theorem Group.Seen.refl (n : StandNo) (u : Group) : u.Seen n u := ⟨rfl, .rfl, id⟩

theorem Gauge.Seen.refl (n : StandNo) (u : Gauge) : u.Seen n u := ⟨.rfl⟩

/-- R10: what tables are loaded stays loaded. -/
structure StaysLoaded (s t : State) : Prop where
  group : ∀ g, (s.group g).loaded = true → (t.group g).loaded = true
  gauge : ∀ g, (s.gauge g).loaded = true → (t.gauge g).loaded = true
  path : ∀ n, (s.path n).loaded = true → (t.path n).loaded = true

/-- R41: the tables that a stand table names stay loaded. -/
theorem StaysLoaded.tablesOf {s t : State} (h : StaysLoaded s t) {x : StandTable} (k : s.tablesOf x = true) :
    t.tablesOf x = true := by
  rw [State.tablesOf_iff] at k ⊢
  exact ⟨h.group _ k.1, fun g e => h.gauge g (k.2 g e)⟩

/-- R10: the tables that a stand needs, by those that its stand table names. -/
theorem State.tablesReady_eq (s : State) (n : StandNo) :
    s.tablesReady n = ((s.stand n).loaded && (s.path n).loaded && s.tablesOf (s.stand n).table) := by
  unfold State.tablesReady State.tablesOf State.groupOf
  cases gaugeEntry (s.stand n).table with
  | none => simp only [Bool.and_assoc]
  | some g => simp only [Bool.and_assoc]

/-- R10: the tables that a stand needs stay loaded. -/
theorem StaysLoaded.tablesReady {s t : State} (h : StaysLoaded s t) {n : StandNo} (table : (t.stand n).table = (s.stand n).table)
    (loaded : (t.stand n).loaded = (s.stand n).loaded) (k : s.tablesReady n = true) : t.tablesReady n = true := by
  rw [State.tablesReady_eq, Bool.and_eq_true, Bool.and_eq_true] at k ⊢
  obtain ⟨⟨own, path⟩, named⟩ := k
  exact ⟨⟨loaded.trans own, h.path n path⟩, table ▸ h.tablesOf named⟩

/-- A stand's part is as it was. -/
theorem Standing.of_seen {s t : State} {n : StandNo} {r : Role} (groups : ∀ g, (s.group g).Seen n (t.group g))
    (gauges : ∀ g, (s.gauge g).Seen n (t.gauge g)) (h : Standing s n r) : Standing t n r where
  waits g := by rw [(groups g).waits]; exact h.waits g
  holds g := (groups g).holds.trans (h.holds g)
  ranges g := (gauges g).place.trans (h.ranges g)

/-- A stand that has no entry gains none. -/
theorem State.hasEntry_of_seen {s t : State} {n : StandNo} (groups : ∀ g, (s.group g).Seen n (t.group g))
    (h : s.hasEntry n = false) : t.hasEntry n = false := by
  rw [Bool.eq_false_iff, ne_eq, State.hasEntry_iff_lists] at h ⊢
  exact fun ⟨g, m⟩ => h ⟨g, (groups g).lists m⟩

/-- A stand is as sound as it was where it is itself as it was. -/
theorem StandSound.of_seen {s t : State} {n : StandNo} (stand : t.stand n = s.stand n) (loaded : StaysLoaded s t)
    (groups : ∀ g, (s.group g).Seen n (t.group g)) (gauges : ∀ g, (s.gauge g).Seen n (t.gauge g)) (h : StandSound s n) :
    StandSound t n where
  fits := stand ▸ h.fits
  standing := by rw [stand]; exact h.standing.of_seen groups gauges
  clear m := by rw [stand] at m; exact State.hasEntry_of_seen groups (h.clear m)
  gauged r := by rw [stand] at r ⊢; exact h.gauged r
  ready o := by rw [stand] at o; exact loaded.tablesReady (by rw [stand]) (by rw [stand]) (h.ready o)
  loadReady l e := by rw [stand] at e ⊢; exact loaded.tablesOf (h.loadReady l e)

/-! ### The part of the state that soundness reads, changed unit by unit -/

section

variable {hole : Option StandNo} {x y : List TableId} {s t : State}

theorem SoundBut.mono (h : SoundBut hole x s) (le : ∀ id ∈ x, id ∈ y) : SoundBut hole y s :=
  { h with pending := fun id m => h.pending id fun hx => m (le id hx) }

/-- Soundness reads the stands, groups, gauges and paths alone. -/
theorem SoundBut.of_blocks (a : t.stands = s.stands) (b : t.groups = s.groups)
    (c : t.gauges = s.gauges) (d : t.paths = s.paths) (h : SoundBut hole x s) : SoundBut hole x t := by
  have stand (n : StandNo) : t.stand n = s.stand n := by simp only [State.stand, a]
  have group (g : GroupNo) : t.group g = s.group g := by simp only [State.group, b]
  have gauge (g : GaugeNo) : t.gauge g = s.gauge g := by simp only [State.gauge, c]
  have path (n : StandNo) : t.path n = s.path n := by simp only [State.path, d]
  have entry (n : StandNo) : t.hasEntry n = s.hasEntry n := by simp only [State.hasEntry, b]
  have paths : t.pathEntries = s.pathEntries := by funext n; rw [State.pathEntries, path, State.pathEntries]
  have loaded : StaysLoaded s t := ⟨fun _ => by rw [group]; exact id, fun _ => by rw [gauge]; exact id, fun _ => by rw [path]; exact id⟩
  refine ⟨fun n hn => (h.stands n hn).of_seen (stand n) loaded (fun g => group g ▸ .refl ..) (fun g => gauge g ▸ .refl ..),
    fun g => by rw [group, paths]; exact h.groups g, by simpa only [group] using h.oneList, by simpa only [gauge] using h.gauges,
    fun id hid => ?_⟩
  have := h.pending id hid
  rcases id with _ | n | n | g | g
  · trivial
  all_goals simpa only [State.pendingFits, stand, group, gauge, path, entry] using this

/-- R103, R125: one group changed. -/
theorem SoundBut.onGroup (h : SoundBut hole x s) (g : GroupNo) (f : Group → Group)
    (seen : ∀ n, some n ≠ hole → (s.group g).Seen n (f (s.group g)))
    (sound : (f (s.group g)).Sound s.pathEntries)
    (lists : ∀ n, (f (s.group g)).lists n → (s.group g).lists n ∨ s.hasEntry n = false)
    (loaded : (s.group g).loaded = true → (f (s.group g)).loaded = true)
    (keeps : ∀ n, .path n ∉ x → (s.group g).lists n → (f (s.group g)).lists n)
    (pending : .group g ∉ x → (f (s.group g)).pendingLoad.isSome = true →
      (f (s.group g)).holder ≠ .none ∨ (f (s.group g)).tracker ≠ []) :
    SoundBut hole x (s.onGroup g f) := by
  have stays : StaysLoaded s (s.onGroup g f) :=
    ⟨fun k e => by rw [State.onGroup_group]; split <;> [(next w => subst w; exact loaded e); exact e], fun _ => id, fun _ => id⟩
  refine ⟨fun n hn => StandSound.of_seen (s := s) rfl stays (fun k => ?_) (fun k => .refl ..) (h.stands n hn), fun k => ?_, fun k l n => ?_,
    h.gauges, fun id hid => ?_⟩
  · rw [State.onGroup_group]
    split
    · next w => subst w; exact seen n hn
    · exact .refl ..
  · rw [State.onGroup_group]
    split
    · exact sound
    · exact h.groups k
  · have other (k : GroupNo) : ((s.onGroup g f).group k).lists n → (s.group k).lists n ∨ k = g ∧ s.hasEntry n = false := by
      rw [State.onGroup_group]
      split
      · next w => subst w; exact fun m => (lists n m).imp_right fun e => ⟨rfl, e⟩
      · exact .inl
    intro a b
    rcases other k a with ka | ⟨rfl, none⟩ <;> rcases other l b with lb | ⟨rfl, none'⟩
    · exact h.oneList k l n ka lb
    · rw [(s.hasEntry_iff_lists n).2 ⟨_, ka⟩] at none'; cases none'
    · rw [(s.hasEntry_iff_lists n).2 ⟨_, lb⟩] at none; cases none
    · rfl
  · have before := h.pending id hid
    cases id with
    | part => trivial
    | stand n => exact before
    | gauge k => exact before
    | path n =>
      intro p
      obtain ⟨k, m⟩ := (s.hasEntry_iff_lists n).1 (before p)
      refine (State.hasEntry_iff_lists _ n).2 ⟨k, ?_⟩
      rw [State.onGroup_group]
      split
      · next w => subst w; exact keeps n hid m
      · exact m
    | group k =>
      simp only [State.pendingFits, State.onGroup_group]
      split
      · next w => subst w; exact pending hid
      · exact before

/-- R114: one gauge changed. -/
theorem SoundBut.onGauge (h : SoundBut hole x s) (g : GaugeNo) (f : Gauge → Gauge)
    (seen : ∀ n, some n ≠ hole → (s.gauge g).Seen n (f (s.gauge g))) (sound : (f (s.gauge g)).Sound)
    (loaded : (s.gauge g).loaded = true → (f (s.gauge g)).loaded = true)
    (pending : .gauge g ∉ x → (f (s.gauge g)).pendingLoad.isSome = true → (f (s.gauge g)).state ≠ .idle) :
    SoundBut hole x (s.onGauge g f) := by
  have stays : StaysLoaded s (s.onGauge g f) :=
    ⟨fun _ => id, fun k e => by rw [State.onGauge_gauge]; split <;> [(next w => subst w; exact loaded e); exact e], fun _ => id⟩
  refine ⟨fun n hn => StandSound.of_seen (s := s) rfl stays (fun k => .refl ..) (fun k => ?_) (h.stands n hn), h.groups, h.oneList,
    fun k => ?_, fun id hid => ?_⟩
  · rw [State.onGauge_gauge]
    split
    · next w => subst w; exact seen n hn
    · exact .refl ..
  · rw [State.onGauge_gauge]
    split
    · exact sound
    · exact h.gauges k
  · have before := h.pending id hid
    cases id with
    | part => trivial
    | stand n => exact before
    | path n => exact before
    | group k => exact before
    | gauge k =>
      simp only [State.pendingFits, State.onGauge_gauge]
      split
      · next w => subst w; exact pending hid
      · exact before

/-- R141: one path table changed; the entries of a stand's list keep the table that they are read by. -/
theorem SoundBut.onPath (h : SoundBut hole x s) (n : StandNo) (f : PathTable → PathTable)
    (table : s.hasEntry n = true → (f (s.path n)).table = (s.path n).table)
    (loaded : (s.path n).loaded = true → (f (s.path n)).loaded = true)
    (pending : .path n ∉ x → (f (s.path n)).pendingLoad.isSome = true → s.hasEntry n = true) :
    SoundBut hole x (s.onPath n f) := by
  have stays : StaysLoaded s (s.onPath n f) :=
    ⟨fun _ => id, fun _ => id, fun k e => by rw [State.onPath_path]; split <;> [(next w => subst w; exact loaded e); exact e]⟩
  refine ⟨fun m hm => StandSound.of_seen (s := s) rfl stays (fun k => .refl ..) (fun k => .refl ..) (h.stands m hm), fun k => ?_, h.oneList,
    h.gauges, fun id hid => ?_⟩
  · refine ⟨(h.groups k).holder, (h.groups k).once, fun e m => ?_⟩
    have same : (s.onPath n f).pathEntries e.stand = s.pathEntries e.stand := by
      rw [State.pathEntries, State.onPath_path]
      split
      · next w => subst w; exact table ((s.hasEntry_iff_lists _).2 ⟨k, e, m, rfl⟩)
      · rfl
    rw [same]
    exact (h.groups k).entries e m
  · have before := h.pending id hid
    cases id with
    | part => trivial
    | stand n => exact before
    | gauge k => exact before
    | group k => exact before
    | path m =>
      simp only [State.pendingFits, State.onPath_path]
      split
      · next w => subst w; exact pending hid
      · exact before

/-- A stand changed that is out of account. -/
theorem SoundBut.onStand_hole {n : StandNo} (h : SoundBut (some n) x s) (f : Stand → Stand) (free : .stand n ∈ x) :
    SoundBut (some n) x (s.onStand n f) := by
  refine ⟨fun m hm => StandSound.of_seen (s := s) ?_ ⟨fun _ => id, fun _ => id, fun _ => id⟩ (fun k => .refl ..)
      (fun k => .refl ..) (h.stands m hm),
    h.groups, h.oneList, h.gauges, fun id hid => ?_⟩
  · exact s.onStand_stand_ne n m f fun e => hm (e ▸ rfl)
  · have before := h.pending id hid
    cases id with
    | part => trivial
    | gauge k => exact before
    | group k => exact before
    | path m => exact before
    | stand m =>
      have ne : n ≠ m := fun e => hid (e ▸ free)
      simp only [State.pendingFits, s.onStand_stand_ne n m f ne]
      exact before

/-- The stand out of account is taken into account. -/
theorem SoundBut.close {n : StandNo} (h : SoundBut (some n) x s) (k : StandSound s n) : SoundBut none x s :=
  { h with stands := fun m _ => if e : m = n then e ▸ k else h.stands m fun w => e (Option.some.inj w) }

/-- A stand is taken out of account. -/
theorem SoundBut.openAt (h : SoundBut none x s) (n : StandNo) : SoundBut (some n) x s :=
  { h with stands := fun m _ => h.stands m (by simp) }

end

end Sys2Proof.Machine
end

section
/-!
PROOFS. Soundness through the changes of one unit: changes that a unit's neighbours do not see, loads applied (R43, R122, R141, R143), and
loads held pending that a condition no longer holds, applied (R45, R122, R141, R143).
-/

namespace Sys2Proof.Machine

/-! ### Changes that the neighbours do not see -/

/-- R103, R125: the lock, the waiting set and the list are as they were; a load may have been applied. -/
structure Group.Alike (u v : Group) : Prop where
  waiting : v.waiting = u.waiting
  holder : v.holder = u.holder
  tracker : v.tracker = u.tracker
  loaded : u.loaded = true → v.loaded = true
  pendingLoad : v.pendingLoad.isSome = true → u.pendingLoad.isSome = true

/-- R114: the queue and the state are as they were; a load may have been applied. -/
structure Gauge.Alike (u v : Gauge) : Prop where
  queue : v.queue = u.queue
  state : v.state = u.state
  loaded : u.loaded = true → v.loaded = true
  pendingLoad : v.pendingLoad.isSome = true → u.pendingLoad.isSome = true

/-- The stand's tables and its part in group and gauge are as they were. -/
structure Stand.Alike (u v : Stand) : Prop where
  load : u.SameLoad v
  role : v.role = u.role
  mayHold : v.state.mayHold = true → u.state.mayHold = true
  ranging : v.state = .ranging → u.state = .ranging
  live : v.state ≠ .offline → u.state ≠ .offline

theorem Gauge.measures_congr {u v : Gauge} (h : v.state = u.state) (n : StandNo) : v.measures n = u.measures n := by
  simp only [Gauge.measures, h]

theorem Group.lists_congr {u v : Group} (h : v.tracker = u.tracker) (n : StandNo) : v.lists n ↔ u.lists n := by
  rw [Group.lists, h]; rfl

theorem Group.Sound.congr {p : StandNo → PathEntries} {u v : Group} (holder : v.holder = u.holder) (tracker : v.tracker = u.tracker)
    (h : u.Sound p) : v.Sound p where
  holder := by rw [holder, tracker]; exact h.holder
  once := by rw [tracker]; exact h.once
  entries := by rw [tracker]; exact h.entries

theorem Gauge.Sound.congr {u v : Gauge} (queue : v.queue = u.queue) (state : v.state = u.state) (h : u.Sound) : v.Sound where
  once := queue ▸ h.once
  apart := by rw [queue]; intro n m; rw [Gauge.measures_congr state]; exact h.apart n m

section

variable {hole : Option StandNo} {x : List TableId} {s : State}

theorem SoundBut.onGroup_alike (h : SoundBut hole x s) (g : GroupNo) (f : Group → Group) (k : (s.group g).Alike (f (s.group g))) :
    SoundBut hole x (s.onGroup g f) := by
  obtain ⟨waiting, holder, tracker, loaded, load⟩ := k
  have lists := Group.lists_congr tracker
  refine h.onGroup g f (fun n _ => ⟨by rw [waiting], by rw [holder], (lists n).1⟩) ((h.groups g).congr holder tracker)
    (fun n m => .inl ((lists n).1 m)) loaded (fun n _ => (lists n).2) fun m p => ?_
  rw [holder, tracker]
  exact h.pending (.group g) m (load p)

theorem SoundBut.onGauge_alike (h : SoundBut hole x s) (g : GaugeNo) (f : Gauge → Gauge) (k : (s.gauge g).Alike (f (s.gauge g))) :
    SoundBut hole x (s.onGauge g f) := by
  obtain ⟨queue, state, loaded, load⟩ := k
  refine h.onGauge g f (fun n _ => ⟨by rw [queue, Gauge.measures_congr state n]⟩) ((h.gauges g).congr queue state) loaded fun m p => ?_
  rw [state]
  exact h.pending (.gauge g) m (load p)

/-- Two states of a stand, seen from the rest of the state. -/
theorem StandSound.onStand {n : StandNo} {f : Stand → Stand} (h : StandSound s n) (k : (s.stand n).Alike (f (s.stand n)))
    (fits : (f (s.stand n)).Fits) : StandSound (s.onStand n f) n := by
  obtain ⟨⟨table, loaded, load⟩, role, mayHold, ranging, live⟩ := k
  have same : StaysLoaded s (s.onStand n f) := ⟨fun _ => id, fun _ => id, fun _ => id⟩
  constructor
  · rw [State.onStand_stand_self]; exact fits
  · rw [State.onStand_stand_self, role]
    exact Standing.of_seen (s := s) (fun _ => .refl ..) (fun _ => .refl ..) h.standing
  · rw [State.onStand_stand_self]; exact fun m => h.clear (mayHold m)
  · rw [State.onStand_stand_self, table]; exact fun r => h.gauged (ranging r)
  · rw [State.onStand_stand_self]
    exact fun o => same.tablesReady (by rw [State.onStand_stand_self, table]) (by rw [State.onStand_stand_self, loaded])
      (h.ready (live o))
  · rw [State.onStand_stand_self, table, load]
    exact fun l e => same.tablesOf (h.loadReady l e)

/-- R2: one stand changed, its part in group and gauge as it was. -/
theorem SoundBut.onStand (h : SoundBut none x s) (n : StandNo) (f : Stand → Stand) (k : (s.stand n).Alike (f (s.stand n)))
    (fits : (s.stand n).Fits → (f (s.stand n)).Fits)
    (defers : .stand n ∉ x → (s.stand n).state.defers = true → (f (s.stand n)).state.defers = true) :
    SoundBut none x (s.onStand n f) := by
  have sound := h.stands n (by simp)
  have free : SoundBut none (.stand n :: x) (s.onStand n f) :=
    (((h.mono (y := .stand n :: x) (by simp +contextual)).openAt n).onStand_hole f (by simp)).close (sound.onStand k (fits sound.fits))
  refine { free with pending := fun id hid => ?_ }
  by_cases e : id = .stand n
  · subst e
    simp only [State.pendingFits, State.onStand_stand_self, k.load.pendingLoad]
    exact fun p => defers hid (h.pending _ hid p)
  · exact free.pending id (by simp [e, hid])

/-- A change of a stand that leaves its state and its forced mark. -/
theorem Stand.Alike.of_state {u v : Stand} (load : u.SameLoad v) (state : v.state = u.state) (forced : v.forced = u.forced) :
    u.Alike v where
  load := load
  role := by simp only [Stand.role, load.table, state, forced]
  mayHold := by rw [state]; exact id
  ranging := by rw [state]; exact id
  live := by rw [state]; exact id

/-- A change of a stand within its state. -/
theorem SoundBut.onStand_within (h : SoundBut none x s) (n : StandNo) (f : Stand → Stand)
    (fits : (s.stand n).Fits → (f (s.stand n)).Fits)
    (load : (s.stand n).SameLoad (f (s.stand n)) := by exact ⟨rfl, rfl, rfl⟩)
    (state : (f (s.stand n)).state = (s.stand n).state := by rfl)
    (forced : (f (s.stand n)).forced = (s.stand n).forced := by rfl) : SoundBut none x (s.onStand n f) :=
  h.onStand n f (.of_state load state forced) fits fun _ => by rw [state]; exact id

/-! ### Parts of the state that soundness does not read -/

theorem SoundBut.event (h : SoundBut hole x s) (k : EventKind) (a : Option StandNo) (b : Option EventUnit) (d : Option Nat) :
    SoundBut hole x (s.takeEvent k a b d) := SoundBut.of_blocks (s := s) rfl rfl rfl rfl h

theorem SoundBut.standEvent (h : SoundBut hole x s) (k : EventKind) (n : StandNo) : SoundBut hole x (s.standEvent k n) :=
  h.event ..

theorem SoundBut.onFrame (h : SoundBut hole x s) (f : FrameWork → FrameWork) : SoundBut hole x (s.onFrame f) :=
  SoundBut.of_blocks (s := s) rfl rfl rfl rfl h

theorem SoundBut.onResponder (h : SoundBut hole x s) (f : Responder → Responder) : SoundBut hole x (s.onResponder f) :=
  SoundBut.of_blocks (s := s) rfl rfl rfl rfl h

theorem SoundBut.raiseFlag (h : SoundBut hole x s) (n : StandNo) (k : StandFlag) : SoundBut hole x (s.raiseFlag n k) := by
  unfold State.raiseFlag
  split
  · exact h.onResponder _
  · exact h

theorem SoundBut.markMoved (h : SoundBut hole x s) (f : InputField) (b : Bool) : SoundBut hole x (markMoved f b s) := by
  unfold Machine.markMoved
  split
  · exact h.onFrame _
  · exact h

/-! ### Loads applied -/

theorem SoundBut.applyGroupLoad (h : SoundBut hole x s) (g : GroupNo) (l : Load) : SoundBut hole x (applyGroupLoad g l s) :=
  (h.onGroup_alike g _ ⟨rfl, rfl, rfl, fun _ => rfl, id⟩).markMoved ..

theorem SoundBut.applyGaugeLoad (h : SoundBut hole x s) (g : GaugeNo) (l : Load) : SoundBut hole x (applyGaugeLoad g l s) :=
  (h.onGauge_alike g _ ⟨rfl, rfl, fun _ => rfl, id⟩).markMoved ..

theorem SoundBut.applyPathLoad (h : SoundBut hole x s) (n : StandNo) (l : Load) (free : s.hasEntry n = false) :
    SoundBut hole x (applyPathLoad n l s) :=
  h.onPath n _ (by simp [free]) (fun _ => rfl) (h.pending (.path n))

/-- R71: outside ACCELERATING and PASTING a stand's items fit whatever its table. -/
theorem Stand.Fits.load {st : Stand} (h : st.Fits) (still : st.state.splices = false) (t : StandTable) (m : Monitor StandSample)
    (l : Option Load) (loaded : Bool) : { st with table := t, loaded := loaded, monitor := m, pendingLoad := l }.Fits := by
  obtain ⟨records, marks, schedule, rotation, arm, reference, -, times⟩ := h
  exact ⟨records, marks, schedule, rotation, arm, reference, by simp [reference still], times⟩

/-- R42: a stand that holds no load pending has no part in group or gauge. -/
theorem Stand.role_of_defers {st : Stand} (h : st.state.defers = false) : st.role = ⟨none, none, none⟩ := by
  cases e : st.state <;> simp_all [Stand.role, StandState.defers, StandState.mayHold]

/-- R42: a stand that holds no load pending is not splicing. -/
theorem StandState.splices_of_defers {a : StandState} (h : a.defers = false) : a.splices = false := by
  cases a <;> simp_all [StandState.defers, StandState.splices]

/-- R42: a stand that holds no load pending does not hold the lock. -/
theorem StandState.mayHold_of_defers {a : StandState} (h : a.defers = false) : a.mayHold = false := by
  cases a <;> simp_all [StandState.defers, StandState.mayHold]

/-- A stand after a stand-table load, with no load left pending. -/
def Stand.loadedBy (l : Load) (m : Monitor StandSample) (st : Stand) : Stand :=
  { st with table := l.over st.table, loaded := true, pendingLoad := none, monitor := m }

/-- What is still held pending fits the condition that holds it. -/
theorem SoundBut.settled {id : TableId} (h : SoundBut hole (id :: x) s) (k : s.pendingFits id) : SoundBut hole x s :=
  { h with pending := fun o ho => if e : o = id then e ▸ k else h.pending o (by simp [e, ho]) }

/-- R43: a stand-table load applied outside the states that hold it, with no load left pending. -/
theorem SoundBut.standLoaded {n : StandNo} (h : SoundBut none (.stand n :: x) s) (l : Load) (m : Monitor StandSample)
    (free : (s.stand n).state.defers = false)
    (named : (s.stand n).state = .offline ∨ s.tablesOf (l.over (s.stand n).table) = true) :
    SoundBut none x (s.onStand n (Stand.loadedBy l m)) := by
  have sound := h.stands n (by simp)
  have same : StaysLoaded s (s.onStand n (Stand.loadedBy l m)) := ⟨fun _ => id, fun _ => id, fun _ => id⟩
  have own : StandSound (s.onStand n (Stand.loadedBy l m)) n := by
    have idle : (Stand.loadedBy l m (s.stand n)).state.defers = false := free
    constructor
    · rw [State.onStand_stand_self]
      exact sound.fits.load (StandState.splices_of_defers free) ..
    · rw [State.onStand_stand_self, Stand.role_of_defers idle, ← Stand.role_of_defers free]
      exact Standing.of_seen (s := s) (fun _ => .refl ..) (fun _ => .refl ..) sound.standing
    · rw [State.onStand_stand_self, StandState.mayHold_of_defers idle]
      exact nofun
    · rw [State.onStand_stand_self]
      intro r
      rw [r] at idle
      cases idle
    · intro live
      rw [State.onStand_stand_self] at live
      have ready := sound.ready live
      rw [State.tablesReady_eq, Bool.and_eq_true, Bool.and_eq_true] at ready ⊢
      rw [State.onStand_stand_self]
      exact ⟨⟨rfl, ready.1.2⟩, same.tablesOf (named.resolve_left live)⟩
    · simp [Stand.loadedBy]
  exact (((h.openAt n).onStand_hole _ (by simp)).close own).settled (by simp [State.pendingFits, Stand.loadedBy])

end

/-! ### Loads held pending, applied where nothing holds them -/

section

variable {hole : Option StandNo} {x : List TableId} {s : State}

/-- R45: what is still held pending is held by the stand's state. -/
theorem SoundBut.settleStand {n : StandNo} (h : SoundBut none (.stand n :: x) s) : SoundBut none x (settleStand n s) := by
  unfold Machine.settleStand
  split
  · next defers => exact h.settled fun _ => defers
  · next free =>
    rw [releaseStandLoad_eq]
    cases p : (s.stand n).pendingLoad with
    | none =>
      simp only [State.loadReleased, p]
      exact h.settled (by simp [State.pendingFits, p])
    | some l =>
      have loaded m := h.standLoaded l m (Bool.eq_false_iff.2 free) (.inr ((h.stands n (by simp)).loadReady l p))
      simp only [State.loadReleased, p]
      refine SoundBut.event ?_ ..
      split
      · exact (loaded _).onFrame _
      · exact loaded _

/-- R143: what is still held pending is held by the group's lock or list. -/
theorem SoundBut.settleGroup {g : GroupNo} (h : SoundBut hole (.group g :: x) s) : SoundBut hole x (settleGroup g s) := by
  unfold Machine.settleGroup
  split
  · unfold releaseGroupLoad
    split
    · refine SoundBut.event (SoundBut.settled (id := .group g) ?_ (by simp [State.pendingFits])) ..
      exact (h.applyGroupLoad g _).onGroup_alike g _ ⟨rfl, rfl, rfl, id, nofun⟩
    · next p => exact h.settled (by simp [State.pendingFits, p])
  · next held =>
    rw [Bool.and_eq_true, not_and_or] at held
    exact h.settled fun _ => held.imp (by simp) (by simp)

/-- R122: what is still held pending is held by the gauge's state. -/
theorem SoundBut.settleGauge {g : GaugeNo} (h : SoundBut hole (.gauge g :: x) s) : SoundBut hole x (settleGauge g s) := by
  unfold Machine.settleGauge
  split
  · unfold releaseGaugeLoad
    split
    · refine SoundBut.event (SoundBut.settled (id := .gauge g) ?_ (by simp [State.pendingFits])) ..
      exact (h.applyGaugeLoad g _).onGauge_alike g _ ⟨rfl, rfl, id, nofun⟩
    · next p => exact h.settled (by simp [State.pendingFits, p])
  · next held => exact h.settled fun _ => by simpa using held

/-- R141: what is still held pending is held by the stand's entry. -/
theorem SoundBut.settlePath {n : StandNo} (h : SoundBut hole (.path n :: x) s) : SoundBut hole x (settlePath n s) := by
  unfold Machine.settlePath
  split
  · next held => exact h.settled fun _ => held
  · next free =>
    unfold releasePathLoad
    split
    · refine SoundBut.standEvent (SoundBut.settled (id := .path n) ?_ (by simp [State.pendingFits])) ..
      exact (h.applyPathLoad n _ (Bool.eq_false_iff.2 free)).onPath n _ (fun _ => rfl) id (fun _ => nofun)
    · next p => exact h.settled (by simp [State.pendingFits, p])

end

end Sys2Proof.Machine
end

section
/-!
PROOFS. A stand under way from one state to another (R5, R96, R99, R103, R105, R113): while it is out of account, it leaves and enters
waiting sets, locks, queues and measurements; then it is taken into account again with the part that its new state has.
-/

namespace Sys2Proof.Machine

/-- Stand `n` is out of account, with these items and this part in group and gauge; all else is sound. -/
structure Opened (n : StandNo) (st : Stand) (r : Role) (x : List TableId) (s : State) : Prop where
  rest : SoundBut (some n) x s
  free : .stand n ∈ x
  stand : s.stand n = st
  standing : Standing s n r
  ready : s.tablesReady n = true
  loadReady : ∀ l, st.pendingLoad = some l → s.tablesOf (l.over st.table) = true

theorem Gauge.measures_iff (u : Gauge) (n : StandNo) : u.measures n = true ↔ ∃ d, u.state = .measuring n d := by
  unfold Gauge.measures
  cases u.state <;> simp

section

variable {n : StandNo} {st : Stand} {r : Role} {x : List TableId} {s : State}

/-- A stand outside OFFLINE is taken out of account. -/
theorem SoundBut.opened (h : SoundBut none x s) (n : StandNo) (live : (s.stand n).state ≠ .offline) :
    Opened n (s.stand n) (s.stand n).role (.stand n :: x) s where
  rest := (h.mono (by simp +contextual)).openAt n
  free := by simp
  stand := rfl
  standing := (h.stands n (by simp)).standing
  ready := (h.stands n (by simp)).ready live
  loadReady := (h.stands n (by simp)).loadReady

namespace Opened

/-- The stand is taken into account with the part that its state has. -/
theorem close (h : Opened n st r x s) (fits : st.Fits) (role : st.role = r)
    (clear : st.state.mayHold = true → s.hasEntry n = false)
    (gauged : st.state = .ranging → (gaugeEntry st.table).isSome = true) : SoundBut none x s := by
  obtain ⟨rest, -, rfl, standing, ready, loadReady⟩ := h
  exact rest.close ⟨fits, role ▸ standing, clear, gauged, fun _ => ready, loadReady⟩

theorem mono {y : List TableId} (h : Opened n st r x s) (le : ∀ id ∈ x, id ∈ y) : Opened n st r y s :=
  { h with rest := h.rest.mono le, free := le _ h.free }

theorem of_blocks {t : State} (a : t.stands = s.stands) (b : t.groups = s.groups) (c : t.gauges = s.gauges) (d : t.paths = s.paths)
    (h : Opened n st r x s) : Opened n st r x t where
  rest := h.rest.of_blocks a b c d
  free := h.free
  stand := by rw [← h.stand, State.stand, State.stand, a]
  standing := by
    refine Standing.of_seen (s := s) (fun g => ?_) (fun g => ?_) h.standing
    · simp only [State.group, b]; exact .refl ..
    · simp only [State.gauge, c]; exact .refl ..
  ready := by
    simpa only [State.tablesReady, State.groupOf, State.stand, State.path, State.group, State.gauge, a, b, c, d] using h.ready
  loadReady l e := by simpa only [State.tablesOf, State.group, State.gauge, b, c] using h.loadReady l e

theorem event (h : Opened n st r x s) (k : EventKind) (a : Option StandNo) (b : Option EventUnit) (d : Option Nat) :
    Opened n st r x (s.takeEvent k a b d) := of_blocks (s := s) rfl rfl rfl rfl h

theorem raiseFlag (h : Opened n st r x s) (m : StandNo) (k : StandFlag) : Opened n st r x (s.raiseFlag m k) := by
  unfold State.raiseFlag
  split
  · exact of_blocks (s := s) rfl rfl rfl rfl h
  · exact h

/-- The stand itself is changed; its tables stay. -/
theorem onStand (h : Opened n st r x s) (f : Stand → Stand) (load : st.SameLoad (f st) := by exact ⟨rfl, rfl, rfl⟩) :
    Opened n (f st) r x (s.onStand n f) := by
  obtain ⟨rest, free, rfl, standing, ready, loadReady⟩ := h
  have same : StaysLoaded s (s.onStand n f) := ⟨fun _ => id, fun _ => id, fun _ => id⟩
  refine ⟨rest.onStand_hole f free, free, s.onStand_stand_self n f,
    Standing.of_seen (s := s) (fun _ => .refl ..) (fun _ => .refl ..) standing,
    same.tablesReady ?_ ?_ ready, fun l e => ?_⟩
  · rw [State.onStand_stand_self, load.table]
  · rw [State.onStand_stand_self, load.loaded]
  · rw [load.pendingLoad] at e
    rw [load.table]
    exact same.tablesOf (loadReady l e)

/-! ### The group's waiting set, lock and list -/

/-- One group changed, whose list and loads stay; its lock may be taken, or given back where a load may wait. -/
theorem onGroup (h : Opened n st r x s) (g : GroupNo) (f : Group → Group) (r' : Role)
    (seen : ∀ m, m ≠ n → (s.group g).Seen m (f (s.group g)))
    (holder : ∀ m, (f (s.group g)).holder = .entry m ↔ (s.group g).holder = .entry m)
    (tracker : (f (s.group g)).tracker = (s.group g).tracker)
    (loaded : (f (s.group g)).loaded = (s.group g).loaded)
    (pending : .group g ∉ x → (f (s.group g)).pendingLoad.isSome = true →
      (f (s.group g)).holder ≠ .none ∨ (f (s.group g)).tracker ≠ [])
    (standing : Standing (s.onGroup g f) n r') : Opened n st r' x (s.onGroup g f) := by
  have lists := Group.lists_congr tracker
  have same : StaysLoaded s (s.onGroup g f) :=
    ⟨fun k e => by rw [State.onGroup_group]; split <;> [(next w => subst w; rw [loaded]; exact e); exact e], fun _ => id, fun _ => id⟩
  refine ⟨h.rest.onGroup g f (fun m hm => seen m fun e => hm (e ▸ rfl)) ⟨fun m => ?_, ?_, ?_⟩
      (fun m k => .inl ((lists m).1 k)) (fun e => loaded.trans e) (fun m _ => (lists m).2) pending,
    h.free, h.stand, standing, same.tablesReady rfl rfl h.ready, fun l e => same.tablesOf (h.loadReady l e)⟩
  · rw [holder, tracker]; exact (h.rest.groups g).holder m
  · rw [tracker]; exact (h.rest.groups g).once
  · rw [tracker]; exact (h.rest.groups g).entries

/-- R96: the stand is put into the waiting set of a group, or out of it. -/
theorem setWaiting (h : Opened n st r x s) (g : GroupNo) (b : Bool) (own : ∀ k, r.waits = some k → k = g) :
    Opened n st { r with waits := if b then some g else none } x
      (s.onGroup g fun u => { u with waiting := u.waiting.set n.val b }) := by
  refine h.onGroup g _ _ (fun m hm => ⟨?_, .rfl, id⟩) (fun _ => .rfl) rfl rfl (fun m p => ?_) ⟨fun k => ?_, fun k => ?_, h.standing.ranges⟩
  · simp [Fin.val_ne_of_ne (Ne.symm hm)]
  · exact h.rest.pending (.group g) m p
  · rw [State.onGroup_group]
    split
    · next w => subst w; cases b <;> simp
    · next w =>
      rw [h.standing.waits k]
      have : r.waits ≠ some k := fun e => w (own k e).symm
      cases b <;> simp [this, w]
  · rw [State.onGroup_group]
    split
    · next w => subst w; exact h.standing.holds _
    · exact h.standing.holds k

/-- R109: the stand gives the lock of a group back. -/
theorem release (h : Opened n st r x s) (g : GroupNo) (own : r.holds = some g) (mem : .group g ∈ x) :
    Opened n st { r with holds := none } x (s.onGroup g fun u => { u with holder := .none }) := by
  have held : (s.group g).holder = .stand n := (h.standing.holds g).2 own
  refine h.onGroup g _ _ (fun m hm => ⟨rfl, by simp [held, Ne.symm hm], id⟩) (fun m => by simp [held]) rfl rfl (fun m => absurd mem m)
    ⟨fun k => ?_, fun k => ?_, h.standing.ranges⟩
  · rw [State.onGroup_group]
    split
    · next w => subst w; exact h.standing.waits _
    · exact h.standing.waits k
  · rw [State.onGroup_group]
    split
    · simp
    · next w => rw [h.standing.holds k, own]; simp [w]

/-- R99: the stand takes the lock of a group that has no holder. -/
theorem take (h : Opened n st r x s) (g : GroupNo) (own : r.holds = none) (open_ : (s.group g).holder = .none) :
    Opened n st { r with holds := some g } x (s.onGroup g fun u => { u with holder := .stand n }) := by
  refine h.onGroup g _ _ (fun m hm => ⟨rfl, by simp [open_, Ne.symm hm], id⟩) (fun m => by simp [open_]) rfl rfl
    (fun _ _ => .inl (by simp)) ⟨fun k => ?_, fun k => ?_, h.standing.ranges⟩
  · rw [State.onGroup_group]
    split
    · next w => subst w; exact h.standing.waits _
    · exact h.standing.waits k
  · rw [State.onGroup_group]
    split
    · next w => simp [w]
    · next w => rw [h.standing.holds k, own]; simp [w]

/-! ### The gauge's queue and measurement -/

/-- One gauge changed, whose loads stay. -/
theorem onGauge (h : Opened n st r x s) (g : GaugeNo) (f : Gauge → Gauge) (r' : Option GaugeNo)
    (seen : ∀ m, m ≠ n → (s.gauge g).Seen m (f (s.gauge g))) (sound : (f (s.gauge g)).Sound)
    (loaded : (f (s.gauge g)).loaded = (s.gauge g).loaded)
    (pending : .gauge g ∉ x → (f (s.gauge g)).pendingLoad.isSome = true → (f (s.gauge g)).state ≠ .idle)
    (own : n ∈ (f (s.gauge g)).queue ∨ (f (s.gauge g)).measures n = true ↔ r' = some g)
    (other : ∀ k, k ≠ g → (r.ranges = some k ↔ r' = some k)) : Opened n st { r with ranges := r' } x (s.onGauge g f) := by
  have same : StaysLoaded s (s.onGauge g f) :=
    ⟨fun _ => id, fun k e => by rw [State.onGauge_gauge]; split <;> [(next w => subst w; rw [loaded]; exact e); exact e], fun _ => id⟩
  refine ⟨h.rest.onGauge g f (fun m hm => seen m fun e => hm (e ▸ rfl)) sound (fun e => loaded.trans e) pending,
    h.free, h.stand, ⟨h.standing.waits, h.standing.holds, fun k => ?_⟩, same.tablesReady rfl rfl h.ready,
    fun l e => same.tablesOf (h.loadReady l e)⟩
  rw [State.onGauge_gauge]
  split
  · next w => subst w; exact own
  · next w => rw [h.standing.ranges k]; exact other k (Ne.symm w)

/-- R16: the stand joins the queue of a gauge. -/
theorem joinQueue (h : Opened n st r x s) (g : GaugeNo) (own : r.ranges = none) :
    Opened n st { r with ranges := some g } x (s.onGauge g fun u => { u with queue := u.queue ++ [n] }) := by
  have out : n ∉ (s.gauge g).queue ∧ (s.gauge g).measures n = false := by
    simpa [own] using h.standing.ranges g
  refine h.onGauge g _ _ (fun m hm => ⟨by simp [hm, Gauge.measures]⟩) ⟨?_, fun m hm => ?_⟩ rfl (h.rest.pending (.gauge g))
    (by simp) (fun k hk => by simp [own, Ne.symm hk])
  · have := (h.rest.gauges g).once
    simp only [List.nodup_append, List.nodup_cons, List.not_mem_nil, not_false_eq_true, List.nodup_nil, and_self, List.mem_singleton,
      this, true_and]
    rintro a ha b rfl rfl
    exact out.1 ha
  · rcases List.mem_append.1 hm with m' | m'
    · exact (h.rest.gauges g).apart m m'
    · rw [List.mem_singleton.1 m']; exact out.2

/-- R114: the stand leaves the queue of its gauge. -/
theorem leaveQueue (h : Opened n st r x s) (g : GaugeNo) (own : r.ranges = some g) (queued : (s.gauge g).measures n = false) :
    Opened n st { r with ranges := none } x (s.onGauge g fun u => { u with queue := u.queue.filter (· != n) }) := by
  refine h.onGauge g _ _ (fun m hm => ⟨by simp [hm, Gauge.measures]⟩) ⟨(h.rest.gauges g).once.filter _, fun m hm => ?_⟩ rfl
    (h.rest.pending (.gauge g)) ?_ (fun k hk => by simp [own, Ne.symm hk])
  · exact (h.rest.gauges g).apart m (List.mem_filter.1 hm).1
  · simpa [Gauge.measures] using queued

/-- R118 to R121: the gauge's measurement of the stand ends; an IDLE gauge's load may wait. -/
theorem endMeasure (h : Opened n st r x s) (g : GaugeNo) (own : r.ranges = some g) (measured : (s.gauge g).measures n = true)
    (after : Gauge → GaugeState) (done : ∀ m d, after (s.gauge g) ≠ .measuring m d) (idle : .gauge g ∈ x ∨ after (s.gauge g) ≠ .idle) :
    Opened n st { r with ranges := none } x (s.onGauge g fun u => { u with state := after u }) := by
  have gone (m : StandNo) : ({ s.gauge g with state := after (s.gauge g) } : Gauge).measures m = false := by
    rw [Bool.eq_false_iff, ne_eq, Gauge.measures_iff]
    exact fun ⟨d, e⟩ => done m d e
  have out : n ∉ (s.gauge g).queue := fun m => by simp [(h.rest.gauges g).apart n m] at measured
  have only (m : StandNo) (hm : m ≠ n) : (s.gauge g).measures m = false := by
    rw [Bool.eq_false_iff, ne_eq, Gauge.measures_iff]
    rintro ⟨d, e⟩
    obtain ⟨d', e'⟩ := (Gauge.measures_iff ..).1 measured
    exact hm (GaugeState.measuring.inj (e.symm.trans e')).1
  refine h.onGauge g _ _ (fun m hm => ⟨?_⟩) ⟨(h.rest.gauges g).once, fun m _ => gone m⟩ rfl (fun m _ => idle.resolve_left m) ?_
    (fun k hk => by simp [own, Ne.symm hk])
  · rw [only m hm, gone m]
  · rw [gone n]; simpa using out

end Opened

end

end Sys2Proof.Machine
end

section
/-!
PROOFS. A stand's records, marks, schedule and command values through each change of the stand (R2, R3, R29, R68, R71, R75, R92).
-/

namespace Sys2Proof.Machine

/-! ### Outside ACCELERATING and PASTING -/

/-- R68, R71: no schedule is held and no command value of a splice stands. -/
structure Stand.Still (st : Stand) : Prop where
  schedule : st.schedule = none
  rotation : st.rotation ≠ .accel
  arm : st.arm ≠ .advance
  reference : st.rotationRef = 0
  brushAt : st.brushAt = none
  knifeAt : st.knifeAt = none

namespace Stand.Fits

variable {st : Stand} (h : st.Fits)

include h

theorem still (idle : st.state.splices = false) : st.Still := by
  obtain ⟨-, -, ⟨schedule, -⟩, rotation, arm, reference, -, brush, knife⟩ := h
  have phase : ∀ p, st.state ≠ .pasting p := fun p e => by rw [e] at idle; cases idle
  refine ⟨by simpa [idle] using schedule, fun e => ?_, fun e => ?_, reference idle, by simpa [phase] using brush,
    by simpa [phase] using knife⟩
  · rw [rotation.1 e] at idle; cases idle
  · have pasting := arm.1 e
    cases w : st.state with
    | pasting p => exact phase p w
    | _ => rw [w] at pasting; cases pasting

/-- R3: the marks are clear outside WAITING and the states that may hold the lock. -/
theorem unmarked (waits : st.state ≠ .waiting) (holds : st.state.mayHold = false) : st.urgent = false ∧ st.forced = false := by
  obtain ⟨-, ⟨urgent, forced, -⟩, -⟩ := h
  constructor
  · exact Bool.eq_false_iff.2 fun e => waits (urgent e)
  · exact Bool.eq_false_iff.2 fun e => (forced e).elim waits (by simp [holds])

/-- R3: the urgent mark is clear outside WAITING. -/
theorem not_urgent (waits : st.state ≠ .waiting) : st.urgent = false :=
  Bool.eq_false_iff.2 fun e => waits (h.marks.1 e)

/-- R29: the fault code is absent outside FAULT and OFFLINE. -/
theorem noFault (fault : st.state ≠ .fault) (offline : st.state ≠ .offline) : st.faultCode = none := by
  obtain ⟨-, ⟨-, -, -, code⟩, -⟩ := h
  exact Option.not_isSome_iff_eq_none.1 fun e => (code e).elim fault offline

/-- R2: a stand that tracks its expiring reel has its record. -/
theorem tracks (k : st.state.tracks = true) : st.expiring.isSome = true := h.records.2.2.2 (.inl k)

/-- R2: a splicing stand has its new reel's diameter and its expiring reel. -/
theorem spliceRecords (k : st.state.splices = true) : st.measured = true ∧ st.expiring.isSome = true :=
  ⟨h.records.2.2.1 (.inr (.inr (.inl k))), h.records.2.2.2 (.inl (by cases e : st.state <;> simp_all [StandState.splices, StandState.tracks]))⟩

end Stand.Fits

/-- R2: what an unfaulted stand outside WAITING, ACCELERATING and PASTING has. -/
theorem Stand.fits_of_still {st : Stand} (k : st.Still) (idle : st.state.splices = false) (records : st.recordsFit)
    (urgent : st.urgent = true → st.state = .waiting) (forced : st.forced = true → st.state = .waiting)
    (fault : st.state = .fault → st.faultCode.isSome = true)
    (code : st.faultCode.isSome = true → st.state = .fault ∨ st.state = .offline) : st.Fits := by
  obtain ⟨schedule, rotation, arm, reference, brush, knife⟩ := k
  have phase : ∀ p, st.state ≠ .pasting p := fun p e => by rw [e] at idle; cases idle
  have paste : st.state.isPasting = false := by
    cases w : st.state with
    | pasting p => exact absurd w (phase p)
    | _ => rfl
  exact ⟨records, ⟨urgent, fun e => .inl (forced e), fault, code⟩, ⟨by simp [schedule, idle], by simp [paste], by simp [phase],
    by simp [phase]⟩, by simp [rotation, idle], by simp [arm, paste], fun _ => reference, by simp [reference],
    by simp [phase, brush], by simp [phase, knife]⟩

/-- A stand at rest: in none of the states that wait or splice, nor in FAULT or OFFLINE. -/
def StandState.rests : StandState → Bool
  | .parked => true
  | .running => true
  | .loaded => true
  | .ranging => true
  | .ready => true
  | _ => false

theorem Stand.fits_of_rest {st : Stand} (k : st.Still) (rest : st.state.rests = true) (records : st.recordsFit)
    (urgent : st.urgent = false) (forced : st.forced = false) (code : st.faultCode = none) : st.Fits := by
  refine Stand.fits_of_still k ?_ records (by simp [urgent]) (by simp [forced]) (fun e => ?_) (by simp [code])
  · cases e : st.state <;> simp_all [StandState.rests, StandState.splices]
  · rw [e] at rest; cases rest

/-- R2: the records of a state at rest. -/
theorem Stand.recordsFit_of_rest {t : Stand} (rest : t.state.rests = true)
    (running : t.state = .running → t.newReel = none) (loaded : t.state = .loaded ∨ t.state = .ranging → t.unmeasured = true)
    (ready : t.state = .ready → t.measured = true) (tracks : t.state.tracks = true → t.expiring.isSome = true) : t.recordsFit := by
  refine ⟨running, loaded, fun k => ?_, fun k => ?_⟩
  · rcases k with k | k | k | k
    · exact ready k
    · rw [k] at rest; cases rest
    · cases e : t.state <;> simp_all [StandState.rests, StandState.splices]
    · rw [k] at rest; cases rest
  · rcases k with k | k
    · exact tracks k
    · rw [k] at rest; cases rest

/-- The schedule, the command values and the fault code are as they were. -/
structure Stand.SameCommand (st t : Stand) : Prop where
  schedule : t.schedule = st.schedule
  rotation : t.rotation = st.rotation
  arm : t.arm = st.arm
  reference : t.rotationRef = st.rotationRef
  brushAt : t.brushAt = st.brushAt
  knifeAt : t.knifeAt = st.knifeAt
  code : t.faultCode = st.faultCode

namespace Stand.Fits

variable {st : Stand} (h : st.Fits)

include h

/-- R2, R3: a stand goes to a state at rest from one at rest or from WAITING. -/
theorem settles {t : Stand} (same : st.SameCommand t) (idle : st.state.splices = false)
    (live : st.state ≠ .fault ∧ st.state ≠ .offline) (rest : t.state.rests = true) (records : t.recordsFit)
    (urgent : t.urgent = false) (forced : t.forced = false) : t.Fits := by
  obtain ⟨schedule, rotation, arm, reference, brush, knife⟩ := h.still idle
  obtain ⟨a, b, c, d, e, f, code⟩ := same
  exact Stand.fits_of_rest ⟨a.trans schedule, by rwa [b], by rwa [c], d.trans reference, e.trans brush, f.trans knife⟩ rest records
    urgent forced (code.trans (h.noFault live.1 live.2))

/-- R118: a result gives the new reel its diameter. -/
theorem readies (ranging : st.state = .ranging) (d : MeasuredDiameter) :
    ({ st with state := .ready, newReel := st.newReel.map fun r => { r with diameter := some d } } : Stand).Fits := by
  obtain ⟨urgent, forced⟩ := h.unmarked (by simp [ranging]) (by rw [ranging]; rfl)
  refine h.settles ⟨rfl, rfl, rfl, rfl, rfl, rfl, rfl⟩ (by rw [ranging]; rfl) (by simp [ranging]) rfl
    (Stand.recordsFit_of_rest rfl nofun (by simp) (fun _ => ?_) fun _ => h.tracks (by rw [ranging]; rfl)) urgent forced
  have reel := h.records.2.1 (.inr ranging)
  unfold Stand.unmeasured at reel
  unfold Stand.measured
  cases r : st.newReel <;> simp_all

/-- R118, R119: a measurement without a result. -/
theorem unloads (ranging : st.state = .ranging) : ({ st with state := .loaded } : Stand).Fits := by
  obtain ⟨urgent, forced⟩ := h.unmarked (by simp [ranging]) (by rw [ranging]; rfl)
  exact h.settles ⟨rfl, rfl, rfl, rfl, rfl, rfl, rfl⟩ (by rw [ranging]; rfl) (by simp [ranging]) rfl
    (Stand.recordsFit_of_rest rfl nofun (fun _ => h.records.2.1 (.inr ranging)) nofun fun _ => h.tracks (by rw [ranging]; rfl))
    urgent forced

/-- R27, R19: a splice is given up. -/
theorem stops {arm : ArmOrder} (splices : st.state.splices = true) (retract : arm ≠ .advance) :
    ({ st with state := .ready, forced := false, rotation := .brake, rotationRef := 0, schedule := none, arm := arm, brushAt := none,
               knifeAt := none } : Stand).Fits := by
  obtain ⟨measured, expiring⟩ := h.spliceRecords splices
  have live : st.state ≠ .fault ∧ st.state ≠ .offline ∧ st.state ≠ .waiting := by
    refine ⟨?_, ?_, ?_⟩ <;> rintro e <;> rw [e] at splices <;> cases splices
  refine Stand.fits_of_rest ⟨rfl, by simp, retract, rfl, rfl, rfl⟩ rfl ⟨nofun, by simp, fun _ => measured, fun _ => expiring⟩
    (h.not_urgent live.2.2) rfl (h.noFault live.1 live.2.1)

/-- R29, R88: a splicing stand enters FAULT. -/
theorem faults {c : FaultCode} {rotation : RotationMode} (splices : st.state.splices = true) (slows : rotation ≠ .accel) :
    ({ st with state := .fault, faultCode := some c, urgent := false, forced := false, schedule := none, rotation := rotation,
               rotationRef := 0, arm := .retract, brushAt := none, knifeAt := none } : Stand).Fits := by
  obtain ⟨measured, expiring⟩ := h.spliceRecords splices
  exact Stand.fits_of_still ⟨rfl, slows, by simp, rfl, rfl, rfl⟩ rfl ⟨nofun, by simp, fun _ => measured, fun _ => expiring⟩
    nofun nofun (fun _ => rfl) (fun _ => .inl rfl)

/-- R22: a READY stand enters WAITING. -/
theorem waits {urgent : Bool} (ready : st.state = .ready) :
    ({ st with state := .waiting, urgent := urgent, forced := false } : Stand).Fits := by
  obtain ⟨schedule, rotation, arm, reference, brush, knife⟩ := h.still (by rw [ready]; rfl)
  refine Stand.fits_of_still ⟨schedule, rotation, arm, reference, brush, knife⟩ rfl
    ⟨nofun, by simp, fun _ => h.records.2.2.1 (.inl ready), fun _ => h.tracks (by rw [ready]; rfl)⟩ (fun _ => rfl) nofun nofun ?_
  rw [show ({ st with state := .waiting, urgent := urgent, forced := false } : Stand).faultCode = none from
    h.noFault (by simp [ready]) (by simp [ready])]
  exact nofun

omit h in
/-- R70: n_ref is at most n_max. -/
theorem reference_le (measured : st.measured = true) (v : Nat) : st.reference v ≤ rotationLimit st.table := by
  unfold Stand.measured at measured
  unfold Stand.reference
  cases r : st.newReel with
  | none => simp [r] at measured
  | some q =>
    cases d : q.diameter with
    | none => simp [r, d] at measured
    | some d' => simp [d, rotationReference]

end Stand.Fits

/-- R11: a stand in OFFLINE. -/
theorem Stand.fits_disabled (st : Stand) : st.disabled.Fits :=
  Stand.fits_of_still ⟨rfl, by simp [Stand.disabled], by simp [Stand.disabled], rfl, rfl, rfl⟩ rfl
    ⟨nofun, by simp [Stand.disabled], by simp [Stand.disabled, StandState.splices], by simp [Stand.disabled, StandState.tracks]⟩
    nofun nofun nofun (fun _ => .inr rfl)

/-! ### In ACCELERATING and PASTING -/

/-- R2, R68, R71: what a stand has in ACCELERATING and in each phase of PASTING. -/
structure Stand.Splicing (st : Stand) : Prop where
  measured : st.measured = true
  expiring : st.expiring.isSome = true
  urgent : st.urgent = false
  code : st.faultCode = none
  schedule : st.schedule.isSome = true
  rotation : st.rotation = .accel
  reference : st.rotationRef ≤ rotationLimit st.table

/-- R75: what a stand has in each phase of PASTING. -/
structure Stand.Advancing (st : Stand) : Prop where
  splicing : st.Splicing
  learned : st.markLearned = true
  deadline : (st.schedule.any (·.advanceDeadline.isSome)) = true
  arm : st.arm = .advance

/-- R81: the schedule holds the times of the paste. -/
def Stand.timed (st : Stand) : Bool :=
  st.schedule.any fun p => p.contactTime.isSome && p.brushTime.isSome && p.confirmDeadline.isSome && p.confirmReference.isSome

/-- R86: the schedule holds the knife time and its reference. -/
def Stand.knifeTimed (st : Stand) : Bool := st.schedule.any fun p => p.knifeTime.isSome && p.knifeReference.isSome

section

variable {st : Stand}

theorem Stand.fits_iff : st.Fits ↔ st.recordsFit ∧ st.marksFit ∧ st.scheduleFits ∧ st.commandFits :=
  ⟨fun ⟨a, b, c, d⟩ => ⟨a, b, c, d⟩, fun ⟨a, b, c, d⟩ => ⟨a, b, c, d⟩⟩

theorem Stand.fits_accelerating (state : st.state = .accelerating) :
    st.Fits ↔ st.Splicing ∧ st.arm ≠ .advance ∧ st.brushAt = none ∧ st.knifeAt = none := by
  simp only [fits_iff, recordsFit, marksFit, scheduleFits, commandFits, state, StandState.splices, StandState.mayHold, StandState.tracks,
    StandState.isPasting]
  constructor
  · simpa using fun a b c d e f g h i j => ⟨⟨a, b, c, d, e, f, h⟩, g, i, j⟩
  · rintro ⟨⟨a, b, c, d, e, f, h⟩, g, i, j⟩
    simp [a, b, c, d, e, f, g, h, i, j]

theorem Stand.fits_advance (state : st.state = .pasting .advance) :
    st.Fits ↔ st.Advancing ∧ st.brushAt = none ∧ st.knifeAt = none := by
  simp only [fits_iff, recordsFit, marksFit, scheduleFits, commandFits, state, StandState.splices, StandState.mayHold, StandState.tracks,
    StandState.isPasting]
  constructor
  · simpa using fun a b c d e k l f g h i j => ⟨⟨⟨a, b, c, d, e, f, h⟩, k, l, g⟩, i, j⟩
  · rintro ⟨⟨⟨a, b, c, d, e, f, h⟩, k, l, g⟩, i, j⟩
    simp [a, b, c, d, e, f, g, h, i, j, k, l]

theorem Stand.fits_brush (state : st.state = .pasting .brush) :
    st.Fits ↔ st.Advancing ∧ st.timed = true ∧ st.brushAt = st.schedule.bind (·.brushTime) ∧ st.knifeAt = none := by
  simp only [fits_iff, recordsFit, marksFit, scheduleFits, commandFits, state, StandState.splices, StandState.mayHold, StandState.tracks,
    StandState.isPasting]
  constructor
  · simpa using fun a b c d e k l m f g h i j => ⟨⟨⟨a, b, c, d, e, f, h⟩, k, l, g⟩, m, i, j⟩
  · rintro ⟨⟨⟨a, b, c, d, e, f, h⟩, k, l, g⟩, m, i, j⟩
    rw [timed] at m
    simp [a, b, c, d, e, f, g, h, i, j, k, l, m]

theorem Stand.fits_cut (state : st.state = .pasting .cut) :
    st.Fits ↔ st.Advancing ∧ st.timed = true ∧ st.knifeTimed = true ∧ st.forced = false ∧ st.brushAt = none ∧
      st.knifeAt = st.schedule.bind (·.knifeTime) := by
  simp only [fits_iff, recordsFit, marksFit, scheduleFits, commandFits, state, StandState.splices, StandState.mayHold, StandState.tracks,
    StandState.isPasting]
  constructor
  · simpa using fun a b c o d e k l m n f g h i j => ⟨⟨⟨a, b, c, d, e, f, h⟩, k, l, g⟩, m, n, o, i, j⟩
  · rintro ⟨⟨⟨a, b, c, d, e, f, h⟩, k, l, g⟩, m, n, o, i, j⟩
    rw [timed] at m
    rw [knifeTimed] at n
    simp [a, b, c, d, e, f, g, h, i, j, k, l, m, n, o]

namespace Stand.Fits

variable (h : st.Fits)

include h

/-- R49: the expiring-reel record is changed. -/
theorem expiring {e : Option ExpiringReel} (same : e.isSome = st.expiring.isSome) : ({ st with expiring := e } : Stand).Fits := by
  obtain ⟨⟨running, loaded, ready, tracks⟩, marks, schedule, command⟩ := h
  exact ⟨⟨running, loaded, ready, fun k => same.trans (tracks k)⟩, marks, schedule, command⟩

/-- R70: n_ref is computed again. -/
theorem refers (splices : st.state.splices = true) (v : Nat) : ({ st with rotationRef := st.reference v } : Stand).Fits := by
  obtain ⟨measured, -⟩ := h.spliceRecords splices
  obtain ⟨records, marks, schedule, rotation, arm, -, -, times⟩ := h
  exact ⟨records, marks, schedule, rotation, arm, by simp [splices], reference_le measured v, times⟩

/-- R25: the entry to ACCELERATING. -/
theorem accelerates {forced : Bool} {p : PasteSchedule} (waits : st.state = .waiting) (v : Nat) :
    ({ st with urgent := false, forced := forced, state := .accelerating, schedule := some p,
               newReel := st.newReel.map fun r => { r with mark := none }, rotation := .accel, rotationRef := st.reference v } :
      Stand).Fits := by
  have idle : st.state.splices = false := by rw [waits]; rfl
  obtain ⟨-, -, arm, -, brush, knife⟩ := h.still idle
  have measured : st.measured = true := h.records.2.2.1 (.inr (.inl waits))
  refine (Stand.fits_accelerating rfl).2 ⟨⟨?_, h.tracks (by rw [waits]; rfl), rfl, h.noFault (by simp [waits]) (by simp [waits]), rfl, rfl,
    reference_le measured v⟩, arm, brush, knife⟩
  unfold Stand.measured at measured ⊢
  cases r : st.newReel <;> simp_all

/-- R72, R73: what a stand in ACCELERATING learns. -/
theorem learns {t : Stand} (state : st.state = .accelerating) (same : t.state = st.state) (reel : t.measured = st.measured)
    (expiring : t.expiring = st.expiring) (urgent : t.urgent = st.urgent) (code : t.faultCode = st.faultCode)
    (schedule : t.schedule.isSome = st.schedule.isSome) (rotation : t.rotation = st.rotation) (table : t.table = st.table)
    (reference : t.rotationRef = st.rotationRef) (arm : t.arm = st.arm) (brush : t.brushAt = st.brushAt)
    (knife : t.knifeAt = st.knifeAt) : t.Fits := by
  obtain ⟨⟨a, b, c, d, e, f, g⟩, x, y, z⟩ := (Stand.fits_accelerating state).1 h
  exact (Stand.fits_accelerating (same.trans state)).2 ⟨⟨reel.trans a, by rwa [expiring], urgent.trans c, code.trans d, schedule.trans e,
    rotation.trans f, by rwa [reference, table]⟩, by rwa [arm], brush.trans y, knife.trans z⟩

/-- R75: the entry to PASTING.ADVANCE. -/
theorem advances (state : st.state = .accelerating) (learned : st.markLearned = true) (d : BitVec 32) :
    ({ st.onSchedule fun p => { p with advanceDeadline := some d } with state := .pasting .advance, arm := .advance } : Stand).Fits := by
  obtain ⟨⟨measured, expiring, urgent, code, schedule, rotation, reference⟩, -, brush, knife⟩ := (Stand.fits_accelerating state).1 h
  obtain ⟨p, e⟩ := Option.isSome_iff_exists.1 schedule
  refine (Stand.fits_advance rfl).2 ⟨⟨⟨measured, expiring, urgent, code, ?_, rotation, reference⟩, learned, ?_, rfl⟩, brush, knife⟩ <;>
    simp [Stand.onSchedule, e]

/-- R81: the entry to PASTING.BRUSH. -/
theorem brushes (state : st.state = .pasting .advance) (contact brush deadline : BitVec 32) (count : BitVec 8) :
    ({ st.onSchedule fun p =>
        { p with contactTime := some contact, brushTime := some brush, confirmDeadline := some deadline
                 confirmReference := some count } with state := .pasting .brush, brushAt := some brush } : Stand).Fits := by
  obtain ⟨⟨⟨measured, expiring, urgent, code, schedule, rotation, reference⟩, learned, advance, arm⟩, -, knife⟩ :=
    (Stand.fits_advance state).1 h
  obtain ⟨p, e⟩ := Option.isSome_iff_exists.1 schedule
  refine (Stand.fits_brush rfl).2 ⟨⟨⟨measured, expiring, urgent, code, ?_, rotation, reference⟩, learned, ?_, arm⟩, ?_, ?_, knife⟩
  · simp [Stand.onSchedule, e]
  · simpa [Stand.onSchedule, e] using advance
  · simp [Stand.onSchedule, Stand.timed, e]
  · simp [Stand.onSchedule, e]

/-- R86: the entry to PASTING.CUT. -/
theorem cuts (state : st.state = .pasting .brush) (knife : BitVec 32) (confirm count : BitVec 8) :
    ({ st.onSchedule fun p =>
        { p with confirmReference := some confirm, knifeTime := some knife, knifeReference := some count } with
        state := .pasting .cut, forced := false, brushAt := none, knifeAt := some knife } : Stand).Fits := by
  obtain ⟨⟨⟨measured, expiring, urgent, code, schedule, rotation, reference⟩, learned, advance, arm⟩, timed, -, -⟩ :=
    (Stand.fits_brush state).1 h
  obtain ⟨p, e⟩ := Option.isSome_iff_exists.1 schedule
  have timed : p.contactTime.isSome = true ∧ p.brushTime.isSome = true ∧ p.confirmDeadline.isSome = true ∧
      p.confirmReference.isSome = true := by simpa [Stand.timed, e, and_assoc] using timed
  refine (Stand.fits_cut rfl).2 ⟨⟨⟨measured, expiring, urgent, code, ?_, rotation, reference⟩, learned, ?_, arm⟩, ?_, ?_, rfl, rfl, ?_⟩
  · simp [Stand.onSchedule, e]
  · simpa [Stand.onSchedule, e] using advance
  · simp [Stand.onSchedule, Stand.timed, e, timed]
  · simp [Stand.onSchedule, Stand.knifeTimed, e]
  · simp [Stand.onSchedule, e]

/-- R87: splice completion. -/
theorem completes (state : st.state = .pasting .cut) (v : StandSample) :
    ({ st with expiring := st.newReel.map fun r => splicedReel r v, newReel := none, rotation := .hold, rotationRef := 0,
               arm := .retract, brushAt := none, knifeAt := none, schedule := none, state := .running } : Stand).Fits := by
  obtain ⟨⟨⟨measured, -, urgent, code, -⟩, -⟩, -, -, forced, -⟩ := (Stand.fits_cut state).1 h
  refine Stand.fits_of_rest ⟨rfl, by simp, by simp, rfl, rfl, rfl⟩ rfl
    (Stand.recordsFit_of_rest rfl (fun _ => rfl) (by simp) nofun fun _ => ?_) urgent forced code
  unfold Stand.measured at measured
  cases r : st.newReel <;> simp_all

end Stand.Fits

end

end Sys2Proof.Machine
end

section
/-!
PROOFS. Every transition of a stand keeps a sound state sound, but for the loads that its last steps then apply (R10 to R31, R99, R105).
-/

namespace Sys2Proof.Machine

/-! ### The part that each state has -/

theorem Stand.role_waiting {st : Stand} (h : st.state = .waiting) : st.role = ⟨some (groupEntry st.table), none, none⟩ := by
  simp [Stand.role, h, StandState.mayHold]

theorem Stand.role_ranging {st : Stand} (h : st.state = .ranging) : st.role = ⟨none, none, gaugeEntry st.table⟩ := by
  simp [Stand.role, h, StandState.mayHold]

theorem Stand.role_splices {st : Stand} (h : st.state.splices = true) :
    st.role = ⟨none, if st.state.mayHold && !st.forced then some (groupEntry st.table) else none, none⟩ := by
  cases e : st.state <;> simp_all [Stand.role, StandState.splices]

theorem StandState.splices_of_mayHold {a : StandState} (h : a.mayHold = true) : a.splices = true := by
  cases a <;> simp_all [StandState.mayHold, StandState.splices]

/-- The part of a stand that waits, ranges and holds nothing. -/
abbrev Role.none : Role := ⟨.none, .none, .none⟩

/-- R28: the states that feed without splicing. -/
def StandState.feeds : StandState → Bool
  | .running => true
  | .loaded => true
  | .ranging => true
  | .ready => true
  | .waiting => true
  | _ => false

section

variable {a : StandState} (h : a.feeds = true)

include h

theorem StandState.mayHold_of_feeds : a.mayHold = false := by cases a <;> simp_all [feeds, mayHold]

theorem StandState.splices_of_feeds : a.splices = false := by cases a <;> simp_all [feeds, splices]

theorem StandState.tracks_of_feeds : a.tracks = true := by cases a <;> simp_all [feeds, tracks]

theorem StandState.live_of_feeds : a ≠ .fault ∧ a ≠ .offline := by cases a <;> simp_all [feeds]

theorem StandState.defers_of_feeds (ranging : a ≠ .ranging) (waiting : a ≠ .waiting) : a.defers = false := by
  cases a <;> simp_all [feeds, defers]

omit h in
theorem StandState.feeds_of_admitsUnmount (h : a.admitsUnmount = true) : a.feeds = true := by
  cases a <;> simp_all [feeds, admitsUnmount]

end

theorem Stand.unmark_eq {st : Stand} (urgent : st.urgent = false) (forced : st.forced = false) :
    { st with urgent := false, forced := false } = st := by
  cases st; subst urgent; subst forced; rfl

/-- R5, R114: a RANGING stand leaves its gauge, a WAITING stand withdraws its wait. -/
def leavePlace (n : StandNo) (s : State) : State :=
  if (s.stand n).state = .ranging then leaveGauge n s
  else if (s.stand n).state = .waiting then withdrawWait n s
  else s

theorem loseWeb_place {n : StandNo} {s : State} (h : (s.stand n).state.feeds = true) : loseWeb n s = (leavePlace n s).webLost n := by
  unfold leavePlace
  cases e : (s.stand n).state with
  | ranging => exact loseWeb_ranging e
  | waiting => exact loseWeb_waiting e
  | running => exact loseWeb_plain (by simp [e])
  | loaded => exact loseWeb_plain (by simp [e])
  | ready => exact loseWeb_plain (by simp [e])
  | _ => simp [e, StandState.feeds] at h

theorem unmountReel_place {n : StandNo} {s : State} (h : (s.stand n).state.admitsUnmount = true) :
    unmountReel n s = settleStand n ((leavePlace n s).onStand n fun st => { st with state := .running, newReel := none }) := by
  unfold leavePlace
  cases e : (s.stand n).state with
  | ranging => exact unmountReel_ranging e
  | waiting => simp only [unmountReel, e]; rfl
  | loaded => exact unmountReel_idle (by simp [e])
  | ready => exact unmountReel_idle (by simp [e])
  | _ => simp [e, StandState.admitsUnmount] at h

/-! ### Leaving -/

section

variable {n : StandNo} {st : Stand} {r : Role} {x : List TableId} {s : State}

namespace Opened

/-- R114, R120: the stand leaves its gauge. -/
theorem leaveGauge (h : Opened n st r x s) (own : r.ranges = gaugeEntry st.table) :
    Opened n st { r with ranges := none } x (leaveGauge n s) := by
  unfold Machine.leaveGauge
  rw [h.stand]
  split
  · next g e =>
    split
    · next m => exact h.endMeasure g (own.trans e) m _ (fun _ _ => nofun) (.inr nofun)
    · next m => exact h.leaveQueue g (own.trans e) (Bool.eq_false_iff.2 m)
  · next e =>
    have : r.ranges = none := own.trans e
    rw [← this]
    exact h

/-- R5: the stand withdraws its wait. -/
theorem withdrawWait (h : Opened n st r x s) (own : ∀ k, r.waits = some k → k = groupEntry st.table) :
    Opened n { st with urgent := false, forced := false } { r with waits := none } x (withdrawWait n s) := by
  have group : s.groupOf n = groupEntry st.table := by rw [State.groupOf, h.stand]
  unfold Machine.withdrawWait leaveWaiting
  exact (h.setWaiting (s.groupOf n) false (by rw [group]; exact own)).onStand fun st => { st with urgent := false, forced := false }

/-- R5: the stand gives back its group's lock, where it holds it. -/
theorem giveBackLock (h : Opened n st r x s) (own : ∀ k, r.holds = some k → k = s.groupOf n) (mem : .group (s.groupOf n) ∈ x) :
    Opened n st { r with holds := none } x (giveBackLock n s) := by
  have lock : s.holdsLock n = true ↔ r.holds = some (s.groupOf n) := by
    rw [← h.standing.holds]; simp [State.holdsLock]
  unfold Machine.giveBackLock
  split
  · next held => exact (h.release _ (lock.1 held) mem).event ..
  · next held =>
    have none : r.holds = none := by
      cases e : r.holds with
      | none => rfl
      | some k => exact absurd (lock.2 (own k e ▸ e)) held
    rw [← none]
    exact h

/-- The stand is taken into account in a state in which it waits, ranges and holds nothing. -/
theorem close_rest (h : Opened n st .none x s) (fits : st.Fits) (idle : st.state.defers = false) : SoundBut none x s := by
  refine h.close fits (Stand.role_of_defers idle) ?_ fun e => ?_
  · rw [StandState.mayHold_of_defers idle]; exact nofun
  · rw [e] at idle; cases idle

end Opened

namespace SoundBut

variable (h : SoundBut none x s)

include h

theorem fits (n : StandNo) : (s.stand n).Fits := (h.stands n (by simp)).fits

theorem open_waiting (state : (s.stand n).state = .waiting) :
    Opened n { s.stand n with urgent := false, forced := false } .none (.stand n :: x) (withdrawWait n s) := by
  have := h.opened n (by rw [state]; simp)
  rw [Stand.role_waiting state] at this
  exact this.withdrawWait (by simp)

theorem open_ranging (state : (s.stand n).state = .ranging) :
    Opened n (s.stand n) .none (.stand n :: x) (leaveGauge n s) := by
  have := h.opened n (by rw [state]; simp)
  rw [Stand.role_ranging state] at this
  exact this.leaveGauge rfl

theorem open_rest (live : (s.stand n).state ≠ .offline) (idle : (s.stand n).state.defers = false) :
    Opened n (s.stand n) .none (.stand n :: x) s := by
  have := h.opened n live
  rwa [Stand.role_of_defers idle] at this

theorem open_splicing (splices : (s.stand n).state.splices = true) :
    Opened n (s.stand n) .none (.stand n :: .group (s.groupOf n) :: x) (giveBackLock n s) := by
  have := (h.mono (y := .group (s.groupOf n) :: x) (by simp +contextual)).opened n (by intro e; rw [e] at splices; cases splices)
  rw [Stand.role_splices splices] at this
  refine this.giveBackLock (fun k => ?_) (by simp)
  split
  · exact fun e => (Option.some.inj e).symm
  · exact nofun

/-! ### Entering ACCELERATING -/

/-- R99: a grant. -/
theorem considerGrant (g : GroupNo) : SoundBut none x (considerGrant g s) := by
  unfold Machine.considerGrant
  split
  · next n granted =>
    obtain ⟨waits, -, clear⟩ := (s.eligible_iff g n).1 (eligible_of_grantee granted)
    have free : (s.group g).holder = .none := by
      unfold State.grantee at granted
      split at granted
      · next k => simpa using (Bool.and_eq_true_iff.1 k).2
      · cases granted
    obtain ⟨state, group⟩ := Stand.role_waits.1 (((h.stands n (by simp)).standing.waits g).1 waits)
    have opened := h.opened n (by rw [state]; simp)
    rw [Stand.role_waiting state] at opened
    have taken := ((opened.setWaiting g false (by simp [group])).take g rfl (by simpa using free)).event
      .lockGranted (some n) (some (.group g)) none
    rw [State.onGroup_onGroup] at taken
    have entered := (taken.onStand fun st => { st with urgent := false, forced := false }).onStand fun st =>
      { st with
        state := .accelerating
        schedule := some (st.newSchedule s.now)
        newReel := st.newReel.map fun r => { r with mark := none }
        rotation := .accel
        rotationRef := st.reference st.heldSpeed }
    refine (entered.close ((h.fits n).accelerates state _) ?_ (fun _ => ?_) nofun).settled ?_
    · simp [Stand.role, StandState.mayHold, group]
    · rw [State.hasEntry_congr (s := s) (fun k => ?_), State.hasEntry_eq_false]
      · exact clear
      · simp only [State.onStand_group, State.takeEvent_group, State.onGroup_group]
        split <;> simp_all
    · simp [State.pendingFits, StandState.defers]
  · exact h

/-- R24: a forced start. -/
theorem startForced (state : (s.stand n).state = .waiting) (forced : (s.stand n).forced = true) (clear : s.hasEntry n = false) :
    SoundBut none x (startForced n s) := by
  have opened := h.opened n (by rw [state]; simp)
  rw [Stand.role_waiting state] at opened
  have entered := ((opened.setWaiting (s.groupOf n) false (by simp [State.groupOf])).onStand fun st => { st with urgent := false }).onStand
    fun st =>
      { st with
        state := .accelerating
        schedule := some (st.newSchedule s.now)
        newReel := st.newReel.map fun r => { r with mark := none }
        rotation := .accel
        rotationRef := st.reference st.heldSpeed }
  refine (entered.close ((h.fits n).accelerates state _) ?_ (fun _ => ?_) nofun).settled ?_
  · simp [Stand.role, forced]
  · rw [← clear]
    refine State.hasEntry_congr (fun k => ?_) n
    simp only [State.onStand_group, State.onGroup_group]
    split <;> simp_all
  · simp [State.pendingFits, StandState.defers]

/-- R22: the entry to WAITING. -/
theorem enterWaiting (urgent : Bool) (ready : (s.stand n).state = .ready) : SoundBut none x (enterWaiting n urgent s) := by
  have opened := h.open_rest (n := n) (by rw [ready]; simp) (by rw [ready]; rfl)
  have entered := (opened.onStand fun st => { st with state := .waiting, urgent := urgent, forced := false }).setWaiting (s.groupOf n) true
    (by simp)
  rw [enterWaiting_eq]
  refine (entered.close ((h.fits n).waits ready) ?_ nofun nofun).settled ?_
  · simp [Stand.role, StandState.mayHold, State.groupOf]
  · simp [State.pendingFits, StandState.defers]

/-- R16: the entry to RANGING. -/
theorem rangeReel (g : GaugeNo) (from_ : (s.stand n).state = .loaded ∨ (s.stand n).state = .ready)
    (gauge : gaugeEntry (s.stand n).table = some g) : SoundBut none x (rangeReel n g s) := by
  have fits := h.fits n
  have opened := h.open_rest (n := n) (by rcases from_ with e | e <;> simp [e]) (by rcases from_ with e | e <;> rw [e] <;> rfl)
  have entered := (opened.onStand fun st =>
    { st with state := .ranging, newReel := st.newReel.map fun r => { r with diameter := none } }).joinQueue g rfl
  refine (entered.close ?_ ?_ nofun (fun _ => by simp [gauge])).settled ?_
  · obtain ⟨urgent, forced⟩ := fits.unmarked (by rcases from_ with e | e <;> simp [e]) (by rcases from_ with e | e <;> rw [e] <;> rfl)
    refine fits.settles ⟨rfl, rfl, rfl, rfl, rfl, rfl, rfl⟩ (by rcases from_ with e | e <;> rw [e] <;> rfl)
      (by rcases from_ with e | e <;> simp [e]) rfl (Stand.recordsFit_of_rest rfl nofun (fun _ => ?_) nofun fun _ => ?_) urgent forced
    · have reel : (s.stand n).newReel.isSome = true := by
        rcases from_ with e | e
        · have := fits.records.2.1 (.inl e)
          unfold Stand.unmeasured at this
          cases r : (s.stand n).newReel <;> simp_all
        · have := fits.records.2.2.1 (.inl e)
          unfold Stand.measured at this
          cases r : (s.stand n).newReel <;> simp_all
      unfold Stand.unmeasured
      cases r : (s.stand n).newReel <;> simp_all
    · exact fits.tracks (by rcases from_ with e | e <;> rw [e] <;> rfl)
  · simp [Stand.role, StandState.mayHold, gauge]
  · simp [State.pendingFits, StandState.defers]

/-! ### Leaving for another state -/

omit h in
/-- R143: what follows a release or a removal. -/
theorem settleReleased {g : GroupNo} (h : SoundBut none (.group g :: x) s) : SoundBut none x (settleReleased g s) := by
  unfold Machine.settleReleased
  refine SoundBut.settleGroup ?_
  split
  · exact (h.onFrame _).considerGrant g
  · exact h

/-- R2: a stand at rest goes to another state at rest. -/
theorem moves (f : Stand → Stand) (live : (s.stand n).state ≠ .offline) (idle : (s.stand n).state.defers = false)
    (load : (s.stand n).SameLoad (f (s.stand n))) (rests : (f (s.stand n)).state.defers = false)
    (fits : (s.stand n).Fits → (f (s.stand n)).Fits) : SoundBut none x (s.onStand n f) := by
  refine h.onStand n f ⟨load, ?_, ?_, fun e => ?_, fun _ => live⟩ fits fun _ d => ?_
  · rw [Stand.role_of_defers rests, Stand.role_of_defers idle]
  · rw [StandState.mayHold_of_defers rests]; exact nofun
  · rw [e] at rests; cases rests
  · rw [idle] at d; cases d

/-- R29: the entry to FAULT. -/
theorem enterFault (c : FaultCode) (splices : (s.stand n).state.splices = true) : SoundBut none x (enterFault n c s) := by
  have opened := (h.mono (y := .group (s.groupOf n) :: x) (by simp +contextual)).opened n
    (by intro e; rw [e] at splices; cases splices)
  rw [Stand.role_splices splices] at opened
  have flagged := ((opened.onStand fun st => { st with state := .fault, faultCode := some c }).event
    (faultEvent c) (some n) none (some (faultNumber c))).raiseFlag n .fault
  have group : (((s.onStand n fun st => { st with state := .fault, faultCode := some c }).takeEvent
      (faultEvent c) (some n) none (some (faultNumber c))).raiseFlag n .fault).groupOf n = s.groupOf n := by simp [State.groupOf]
  have stopped := (flagged.giveBackLock (fun k => by rw [group]; split <;> simp_all [State.groupOf]) (by simp [group])).onStand
    fun st => { st with urgent := false, forced := false, schedule := none, rotation := faultRotation c, rotationRef := 0,
                        arm := .retract, brushAt := none, knifeAt := none }
  exact (stopped.close_rest ((h.fits n).faults splices (by cases c <;> simp [faultRotation])) rfl).settleStand.settleReleased

/-- R27: the speed abort. -/
theorem abortForSpeed (state : (s.stand n).state = .accelerating) : SoundBut none x (abortForSpeed n s) := by
  have fits := h.fits n
  have splices : (s.stand n).state.splices = true := by rw [state]; rfl
  have stopped := ((h.open_splicing splices).onStand fun st =>
      { st with rotation := .brake, rotationRef := 0, schedule := none, brushAt := none, knifeAt := none }).onStand
    fun st => { st with forced := false, state := .ready }
  have retract := ((Stand.fits_accelerating state).1 fits).2.1
  exact ((stopped.close_rest (fits.stops splices retract) rfl).standEvent ..).settleStand.settleReleased

/-- R19: ABORT in ACCELERATING and in PASTING.ADVANCE. -/
theorem abortSplice (state : (s.stand n).state = .accelerating ∨ (s.stand n).state = .pasting .advance) :
    SoundBut none x (abortSplice n s) := by
  have fits := h.fits n
  have splices : (s.stand n).state.splices = true := by rcases state with e | e <;> rw [e] <;> rfl
  rw [abortSplice_eq]
  refine (((h.open_splicing splices).onStand _).close_rest (fits.stops splices ?_) rfl).settleStand.settleGroup
  rcases state with e | e
  · simpa [e] using ((Stand.fits_accelerating e).1 fits).2.1
  · simp [e]

/-- R5: a waiting stand goes back to READY. -/
theorem abortWait (state : (s.stand n).state = .waiting) : SoundBut none x (abortWait n s) := by
  have fits := h.fits n
  refine (((h.open_waiting state).onStand fun st => { st with state := .ready }).close_rest
    (fits.settles ⟨rfl, rfl, rfl, rfl, rfl, rfl, rfl⟩ (by rw [state]; rfl) (by simp [state]) rfl ?_ rfl rfl) rfl).settleStand
  exact Stand.recordsFit_of_rest rfl nofun (by simp) (fun _ => fits.records.2.2.1 (.inr (.inl state)))
    (fun _ => fits.tracks (by rw [state]; rfl))

/-- R11: DISABLE. -/
theorem disableStand (live : (s.stand n).state ≠ .offline) (pasting : (s.stand n).state.isPasting = false) :
    SoundBut none x (disableStand n s) := by
  have wide := h.mono (y := .group (s.groupOf n) :: x) (by simp +contextual)
  by_cases ranging : (s.stand n).state = .ranging
  · rw [disableStand_ranging ranging]
    exact (((wide.open_ranging ranging).onStand _).close_rest (Stand.fits_disabled _) rfl).settleStand.settleGroup
  by_cases waiting : (s.stand n).state = .waiting
  · rw [disableStand_waiting waiting]
    have opened := wide.opened n (by rw [waiting]; simp)
    rw [Stand.role_waiting waiting] at opened
    exact (((opened.setWaiting (s.groupOf n) false (by simp [State.groupOf])).onStand _).close_rest (Stand.fits_disabled _)
      rfl).settleStand.settleGroup
  by_cases accelerating : (s.stand n).state = .accelerating
  · rw [disableStand_accelerating accelerating]
    exact (((h.open_splicing (by rw [accelerating]; rfl)).onStand _).close_rest (Stand.fits_disabled _) rfl).settleStand.settleGroup
  · rw [disableStand_other ranging waiting accelerating]
    have idle : (s.stand n).state.defers = false := by cases e : (s.stand n).state <;> simp_all [StandState.defers, StandState.isPasting]
    exact (((wide.open_rest live idle).onStand _).close_rest (Stand.fits_disabled _) rfl).settleStand.settleGroup

/-- R5, R114: a stand that feeds without splicing is taken out of account, its place in the waiting set or at its gauge left. -/
theorem open_place (state : (s.stand n).state.feeds = true) :
    Opened n { s.stand n with urgent := false, forced := false } .none (.stand n :: x) (leavePlace n s) := by
  unfold leavePlace
  by_cases waiting : (s.stand n).state = .waiting
  · rw [if_neg (by simp [waiting]), if_pos waiting]
    exact h.open_waiting waiting
  obtain ⟨urgent, forced⟩ := (h.fits n).unmarked waiting (StandState.mayHold_of_feeds state)
  rw [if_neg waiting, Stand.unmark_eq urgent forced]
  split
  · next ranging => exact h.open_ranging ranging
  · next ranging => exact h.open_rest (StandState.live_of_feeds state).2 (StandState.defers_of_feeds state ranging waiting)

/-- R28: web loss in the states that feed without splicing. -/
theorem loseWeb (state : (s.stand n).state.feeds = true) : SoundBut none x (loseWeb n s) := by
  rw [loseWeb_place state]
  refine ((((h.open_place state).onStand fun st => { st with state := .parked }).close_rest ?_ rfl).standEvent ..).settleStand
  exact (h.fits n).settles ⟨rfl, rfl, rfl, rfl, rfl, rfl, rfl⟩ (StandState.splices_of_feeds state) (StandState.live_of_feeds state) rfl
    (Stand.recordsFit_of_rest rfl nofun (by simp) nofun nofun) rfl rfl

/-- R15: UNMOUNT. -/
theorem unmountReel (admits : (s.stand n).state.admitsUnmount = true) : SoundBut none x (unmountReel n s) := by
  have state := StandState.feeds_of_admitsUnmount admits
  rw [unmountReel_place admits]
  refine (((h.open_place state).onStand fun st => { st with state := .running, newReel := none }).close_rest ?_ rfl).settleStand
  exact (h.fits n).settles ⟨rfl, rfl, rfl, rfl, rfl, rfl, rfl⟩ (StandState.splices_of_feeds state) (StandState.live_of_feeds state) rfl
    (Stand.recordsFit_of_rest rfl (fun _ => rfl) (by simp) nofun fun _ => (h.fits n).tracks (StandState.tracks_of_feeds state)) rfl rfl

/-! ### Results and timeouts of a gauge (R118, R119) -/

/-- R118, R119: the gauge's measurement of the stand ends, and the stand goes to READY or LOADED. -/
theorem endMeasure {g : GaugeNo} {d : BitVec 32} (f : Stand → Stand) (measured : (s.gauge g).state = .measuring n d)
    (load : (s.stand n).SameLoad (f (s.stand n))) (rests : (f (s.stand n)).state.defers = false)
    (fits : (s.stand n).state = .ranging → (s.stand n).Fits → (f (s.stand n)).Fits) :
    SoundBut none (.stand n :: .gauge g :: x) ((s.onGauge g fun u => { u with state := .idle }).onStand n f) := by
  have wide := h.mono (y := .gauge g :: x) (by simp +contextual)
  have measures : (s.gauge g).measures n = true := (Gauge.measures_iff ..).2 ⟨d, measured⟩
  obtain ⟨ranging, gauge⟩ := Stand.role_ranges.1 (((h.stands n (by simp)).standing.ranges g).1 (.inr measures))
  have opened := wide.opened n (by rw [ranging]; simp)
  rw [Stand.role_ranging ranging] at opened
  exact ((opened.endMeasure g gauge measures (fun _ => .idle) (fun _ _ => nofun) (.inl (by simp))).onStand f load).close_rest
    (fits ranging (h.fits n)) rests

end SoundBut

end

end Sys2Proof.Machine
end

section
/-!
PROOFS. Every piece of work of a gauge and of a tracker entry keeps a sound state sound (R116 to R121, R127, R130 to R138).
-/

namespace Sys2Proof.Machine

/-! ### Gauges -/

section

variable {s : State} {n : StandNo} {g : GaugeNo}

theorem State.raiseFlag_onGauge (k : StandFlag) (f : Gauge → Gauge) : (s.raiseFlag n k).onGauge g f = (s.onGauge g f).raiseFlag n k := by
  unfold State.raiseFlag
  rw [State.onGauge_responder]
  split <;> rfl

/-- R45: the stand's pending load and the gauge do not meet. -/
theorem settleStand_onGauge (f : Gauge → Gauge) : (settleStand n s).onGauge g f = settleStand n (s.onGauge g f) := by
  unfold settleStand
  rw [State.onGauge_stand, releaseStandLoad_eq, releaseStandLoad_eq]
  split
  · rfl
  · unfold State.loadReleased
    rw [State.onGauge_stand, State.onGauge_frame]
    split
    · rfl
    · simp only
      split <;> rfl

end

section

variable {x : List TableId} {s : State} {g : GaugeNo}

/-- R112: a gauge outside MEASURING measures no stand. -/
theorem Gauge.apart_idle {u : Gauge} (h : ∀ m d, u.state ≠ .measuring m d) (m : StandNo) : u.measures m = false := by
  rw [Bool.eq_false_iff, ne_eq, Gauge.measures_iff]
  exact fun ⟨d, e⟩ => h m d e

namespace SoundBut

variable (h : SoundBut none x s)

include h

/-- R120: the gauge becomes IDLE where it measures no stand. -/
theorem gaugeIdle {d : BitVec 32} (cancelling : (s.gauge g).state = .cancelling d) :
    SoundBut none (.gauge g :: x) (s.onGauge g fun u => { u with state := .idle }) := by
  have before := Gauge.apart_idle (u := s.gauge g) (by simp [cancelling])
  have after := Gauge.apart_idle (u := { s.gauge g with state := .idle }) (by simp)
  refine (h.mono (by simp +contextual)).onGauge g _ (fun m _ => ⟨?_⟩) ⟨(h.gauges g).once, fun m _ => after m⟩ id (by simp)
  rw [before m, after m]

/-- R118: the result of a measurement. -/
theorem judgeResult {n : StandNo} {d : BitVec 32} (v : GaugeSample) (measured : (s.gauge g).state = .measuring n d) :
    SoundBut none x (becomeIdle g (judgeResult g n v s)) := by
  refine SoundBut.settleGauge ?_
  unfold Machine.judgeResult
  split
  · next e _ =>
    rw [settleStand_onGauge, State.raiseFlag_onGauge, ← State.onGauge_takeEvent, State.onStand_onGauge]
    exact SoundBut.settleStand (SoundBut.raiseFlag (SoundBut.event (h.endMeasure (fun st =>
      { st with state := .ready, newReel := st.newReel.map fun r => { r with diameter := some ⟨e, .gauge⟩ } })
      measured ⟨rfl, rfl, rfl⟩ rfl fun ranging fits => fits.readies ranging _) ..) ..)
  · rw [settleStand_onGauge, ← State.onGauge_takeEvent, State.onStand_onGauge]
    exact SoundBut.settleStand (SoundBut.event (h.endMeasure (fun st => { st with state := .loaded }) measured ⟨rfl, rfl, rfl⟩ rfl
      fun ranging fits => fits.unloads ranging) ..)

/-- R119: the timeout of a measurement. -/
theorem timeoutMeasure {n : StandNo} {d : BitVec 32} (measured : (s.gauge g).state = .measuring n d) :
    SoundBut none x (timeoutMeasure g n s) := by
  refine SoundBut.settleGauge ?_
  rw [settleStand_onGauge, State.onStand_onGauge]
  exact ((h.event .gaugeTimeout (some n) (some (.gauge g)) none).endMeasure (fun st => { st with state := .loaded }) measured
    ⟨rfl, rfl, rfl⟩ rfl fun ranging fits => fits.unloads ranging).settleStand

/-- R117: the start of a measurement. -/
theorem startMeasure (idle : (s.gauge g).state = .idle) : SoundBut none x (startMeasure g s) := by
  have none_ := Gauge.apart_idle (u := s.gauge g) (by simp [idle])
  have once := (h.gauges g).once
  unfold Machine.startMeasure
  cases q : (s.gauge g).queue with
  | nil =>
    rw [State.onGauge_same _ (by simp [q])]
    exact h
  | cons n rest =>
    rw [q, List.nodup_cons] at once
    have measures (m : StandNo) (d : BitVec 32) (u : Gauge) (e : u.state = .measuring n d) : u.measures m = true ↔ m = n := by
      rw [Gauge.measures_iff]
      simp [e, eq_comm]
    rw [State.onGauge_congr (k := fun u => { u with queue := rest, sequence := u.sequence + 1
                                                    state := .measuring n (addMs s.now (measureTimeout u.table)) }) _ (by simp [q])]
    refine h.onGauge g _ (fun m _ => ⟨?_⟩) ⟨once.2, fun m hm => ?_⟩ id (by simp)
    · rw [measures m _ _ rfl, none_ m, q]
      simp [or_comm]
    · rw [Bool.eq_false_iff, ne_eq, measures m _ _ rfl]
      rintro rfl
      exact once.1 hm

/-- R116 step 1, first part. -/
theorem gaugeResultWork (g : GaugeNo) : SoundBut none x (gaugeResultWork g s) := by
  unfold Machine.gaugeResultWork
  split
  · next v _ =>
    cases e : (s.gauge g).state with
    | measuring n d =>
      simp only
      split
      · exact h.judgeResult v e
      · exact h
    | cancelling d =>
      simp only
      split
      · exact h
      · exact (h.gaugeIdle e).settleGauge
    | idle => exact h
  · exact h

theorem gaugeStartWork (g : GaugeNo) : SoundBut none x (gaugeStartWork g s) := by
  unfold Machine.gaugeStartWork
  split
  · split
    · next k =>
      rw [Bool.and_eq_true] at k
      exact h.startMeasure (by simpa using k.1)
    · exact h
  · exact h

/-- R116 step 3. -/
theorem gaugeDeadlineWork (g : GaugeNo) : SoundBut none x (gaugeDeadlineWork g s) := by
  unfold Machine.gaugeDeadlineWork
  cases e : (s.gauge g).state with
  | measuring n d =>
    simp only
    split
    · exact h.timeoutMeasure e
    · exact h
  | cancelling d =>
    simp only
    split
    · exact ((h.gaugeIdle e).event ..).settleGauge
    · exact h
  | idle => exact h

/-- R121: ring loss. -/
theorem gaugeRingLoss (g : GaugeNo) : SoundBut none x (gaugeRingLoss g s) := by
  unfold Machine.gaugeRingLoss
  cases e : (s.gauge g).state with
  | measuring n d => exact h.timeoutMeasure e
  | _ => exact h

end SoundBut

end

/-! ### The ranges that an entry's items rest on -/

/-- R40, R142: an entry of a range of whole numbers. -/
theorem toNat_of_withinBounds {a b : Nat} {w : Word} (h : withinBounds ((a : Int), (b : Int)) w = true) : a ≤ w.toNat ∧ w.toNat ≤ b := by
  obtain ⟨low, high⟩ : (a : Int) ≤ w.toInt ∧ w.toInt ≤ (b : Int) := by simpa [withinBounds] using h
  rw [BitVec.toInt_eq_toNat_cond] at low high
  split at low <;> omega

section

variable {s : State} (tables : s.tablesSound)

include tables

/-- R133: the copies that a reject window spans. -/
theorem rejectCopies_bounds (g : GroupNo) (n : StandNo) :
    1 ≤ rejectCopies (preMargin (s.group g).table) (spliceExtent (s.stand n).table) (postMargin (s.group g).table)
        (cutoff (s.group g).table) ∧
      rejectCopies (preMargin (s.group g).table) (spliceExtent (s.stand n).table) (postMargin (s.group g).table)
        (cutoff (s.group g).table) ≤ 255 := by
  obtain ⟨stands, -, groups, -, -⟩ := tables
  have extent := toNat_of_withinBounds (a := 1000) (b := 40000) ((stands n).1 25)
  have cut := toNat_of_withinBounds (a := 3000) (b := 7000) ((groups g).1 2)
  have pre := toNat_of_withinBounds (a := 0) (b := 20000) ((groups g).1 3)
  have post := toNat_of_withinBounds (a := 0) (b := 20000) ((groups g).1 4)
  unfold rejectCopies divUp preMargin spliceExtent postMargin cutoff
  constructor
  · refine Nat.div_pos ?_ ?_ <;> simp at * <;> omega
  · refine Nat.div_le_of_le_mul ?_
    simp at *
    omega

/-- R133: the copies ordered. -/
theorem copiesFor_bounds (folders : s.foldersSound) (g : GroupNo) (n : StandNo) : 1 ≤ s.copiesFor g n ∧ s.copiesFor g n ≤ 255 := by
  obtain ⟨low, high⟩ := rejectCopies_bounds tables g n
  have remaining : (s.group g).monitor.held.getD 0 ≤ 255 := by
    have := folders g
    cases e : (s.group g).monitor.held <;> simp_all
  simp only [State.copiesFor, copiesOrdered]
  omega

/-- R139: a path has a checkpoint. -/
theorem checkpointCount_pos (n : StandNo) : 0 < checkpointCount (s.path n).table := by
  obtain ⟨-, paths, -⟩ := tables
  have first := toNat_of_withinBounds (a := 1) (b := 4) ((paths n).1 0)
  exact first.1

omit tables in
/-- R140: a HOLD checkpoint is not a path's last one. -/
theorem atHold_next {p : PathEntries} {e : Entry} (shape : pathShape p = true) (h : e.atHold p = true) :
    e.next + 1 < checkpointCount p := by
  obtain ⟨inside, hold⟩ : e.next < checkpointCount p ∧ isHold p e.next = true := by
    simpa [Entry.atHold] using h
  have := List.all_eq_true.1 shape e.next (by simpa using inside)
  simp only [hold, Bool.and_eq_true] at this
  simpa using this.1

end

/-! ### Tracker entries -/

/-- R125: a list with an entry appended. -/
theorem Group.lists_append {u v : Group} {e : Entry} (h : v.tracker = u.tracker ++ [e]) (m : StandNo) :
    v.lists m ↔ u.lists m ∨ e.stand = m := by
  simp [Group.lists, h, or_and_right, exists_or]

/-- R105, R127: an entry of a stand that the list does not hold is appended, and takes over the lock that the stand holds. -/
theorem Group.Sound.append {p : StandNo → PathEntries} {u : Group} (h : u.Sound p) {e : Entry} {n : StandNo} (stand : e.stand = n)
    (absent : ¬u.lists n) (lock : e.holdsLock = true ↔ u.holder = .stand n) (sound : e.sound (p n)) :
    ({ u with tracker := u.tracker ++ [e], holder := if u.holder = .stand n then .entry n else u.holder } : Group).Sound p where
  holder m := by
    subst stand
    have before := h.holder m
    have split : (∃ a ∈ u.tracker ++ [e], a.stand = m ∧ a.holdsLock = true) ↔
        (∃ a ∈ u.tracker, a.stand = m ∧ a.holdsLock = true) ∨ e.stand = m ∧ e.holdsLock = true := by
      simp [or_and_right, exists_or]
    simp only [split, ← before, lock]
    split
    · next held => simp [held]
    · next held => simp [held]
  once := by
    subst stand
    have apart : ∀ a ∈ u.tracker, a.stand ≠ e.stand := fun a m own => absent ⟨a, m, own⟩
    rw [List.map_append, List.nodup_append]
    refine ⟨h.once, by simp, fun a ha b hb => ?_⟩
    obtain ⟨a, m, rfl⟩ := List.mem_map.1 ha
    obtain rfl : b = e.stand := by simpa using hb
    exact apart a m
  entries a m := by
    rcases List.mem_append.1 m with m | m
    · exact h.entries a m
    · rw [List.mem_singleton.1 m, stand]; exact sound

/-- R82, R105, R127: the stand's entry is appended to its group's list, and takes over the lock where the stand holds it. -/
theorem Opened.appendEntry {n : StandNo} {st : Stand} {r : Role} {x : List TableId} {s : State} (h : Opened n st r x s)
    (own : ∀ k, r.holds = some k → k = s.groupOf n) (clear : s.hasEntry n = false)
    (forced : s.holdsLock n = true → (s.stand n).forced = false) (path : 0 < checkpointCount (s.path n).table)
    (contact length : BitVec 32) : Opened n st { r with holds := none } x (appendEntry n contact length s) := by
  have lock : s.holdsLock n = true ↔ (s.group (s.groupOf n)).holder = .stand n := by simp [State.holdsLock]
  have absent : ¬(s.group (s.groupOf n)).lists n := fun k => by
    rw [(s.hasEntry_iff_lists n).2 ⟨_, k⟩] at clear; cases clear
  have unforced (f : (s.stand n).forced = true) : s.holdsLock n = false := by
    rw [Bool.eq_false_iff]
    exact fun l => by rw [forced l] at f; cases f
  have same (f : Group → Group) (k : (f (s.group (s.groupOf n))).loaded = (s.group (s.groupOf n)).loaded) :
      StaysLoaded s (s.onGroup (s.groupOf n) f) :=
    ⟨fun g e => by rw [State.onGroup_group]; split <;> [(next w => subst w; rw [k]; exact e); exact e], fun _ => id, fun _ => id⟩
  unfold Machine.appendEntry
  refine ⟨h.rest.onGroup _ _ (fun m hm => ⟨rfl, ?_, ?_⟩)
    ((h.rest.groups _).append rfl absent lock ⟨unforced, path, rfl, rfl⟩) (fun m => ?_) id (fun m _ k => ?_) (by simp),
    h.free, h.stand, ⟨fun g => ?_, fun g => ?_, h.standing.ranges⟩, (same _ rfl).tablesReady rfl rfl h.ready,
    fun l e => (same _ rfl).tablesOf (h.loadReady l e)⟩
  · have other : n ≠ m := fun e => hm (e ▸ rfl)
    simp only
    split
    · next held => simp [held, other]
    · exact .rfl
  · intro k
    exact ((Group.lists_append rfl m).1 k).resolve_right fun e => hm (congrArg some e.symm)
  · intro k
    refine ((Group.lists_append rfl m).1 k).imp_right fun e => ?_
    rwa [← show n = m from e]
  · exact (Group.lists_append rfl m).2 (.inl k)
  · rw [State.onGroup_group]
    split
    · next w => subst w; exact h.standing.waits _
    · exact h.standing.waits g
  · rw [State.onGroup_group]
    split
    · simp only
      split <;> simp_all
    · next w =>
      rw [h.standing.holds g]
      simp only [reduceCtorEq, iff_false]
      exact fun e => w (own g e).symm

/-- R126: a group whose entries change, but for the stand that each belongs to and the lock that each holds. -/
theorem Group.Sound.map {p : StandNo → PathEntries} {u : Group} (h : u.Sound p) {f : Entry → Entry}
    (same : ∀ e ∈ u.tracker, (f e).stand = e.stand ∧ (f e).holdsLock = e.holdsLock ∧ (f e).sound (p e.stand)) :
    ({ u with tracker := u.tracker.map f } : Group).Sound p where
  holder n := by
    rw [h.holder n]
    simp only [List.mem_map, exists_exists_and_eq_and]
    exact exists_congr fun e => and_congr_right fun m => by rw [(same e m).1, (same e m).2.1]
  once := by
    have e : (u.tracker.map f).map (·.stand) = u.tracker.map (·.stand) := by
      rw [List.map_map]
      exact List.map_congr_left fun e m => (same e m).1
    rw [e]
    exact h.once
  entries e m := by
    obtain ⟨a, ha, rfl⟩ := List.mem_map.1 m
    rw [(same a ha).1]
    exact (same a ha).2.2

section

variable {x : List TableId} {s : State} {g : GroupNo} {n : StandNo}

namespace SoundBut

/-- R126: an entry changes, but for its stand and its lock. -/
theorem onEntry {hole : Option StandNo} (h : SoundBut hole x s) (f : Entry → Entry)
    (same : ∀ e ∈ (s.group g).tracker, e.stand = n →
      (f e).stand = n ∧ (f e).holdsLock = e.holdsLock ∧ (f e).sound (s.path n).table) : SoundBut hole x (onEntry g n f s) := by
  have each (e : Entry) (m : e ∈ (s.group g).tracker) :
      (if e.stand = n then f e else e).stand = e.stand ∧ (if e.stand = n then f e else e).holdsLock = e.holdsLock ∧
        (if e.stand = n then f e else e).sound (s.pathEntries e.stand) := by
    split
    · next w => subst w; exact same e m rfl
    · exact ⟨rfl, rfl, (h.groups g).entries e m⟩
  have lists (m : StandNo) : ({ s.group g with tracker := (s.group g).tracker.map fun e => if e.stand = n then f e else e } :
      Group).lists m ↔ (s.group g).lists m := by
    simp only [Group.lists, List.mem_map, exists_exists_and_eq_and]
    exact exists_congr fun e => and_congr_right fun m => by rw [(each e m).1]
  refine h.onGroup g _ (fun m _ => ⟨rfl, .rfl, (lists m).1⟩) ((h.groups g).map each) (fun m k => .inl ((lists m).1 k)) id
    (fun m _ => (lists m).2) fun m p => ?_
  simpa using h.pending (.group g) m p

variable (h : SoundBut none x s)

include h

/-- R130 step 2. -/
theorem passHolds (shape : pathShape (s.path n).table = true) (count : BitVec 32) (fuel : Nat) : SoundBut none x (passHolds g n count fuel s) := by
  induction fuel generalizing s with
  | zero => exact h
  | succ fuel ih =>
    unfold Machine.passHolds
    split
    · next e found =>
      simp only
      split
      · next reached =>
        have hold := atHold_next shape (Bool.and_eq_true_iff.1 reached).1
        refine ih (SoundBut.onEntry (s := prepareWindow (s.path n).table e.next s) (SoundBut.of_blocks (s := s) rfl rfl rfl rfl h) _
          fun a m own => ⟨own, rfl, ?_⟩) shape
        obtain ⟨lock, -, copies⟩ := (h.groups g).entries a m
        obtain rfl : a = e := Option.some.inj ((Group.entryOf_eq_some (h.groups g).once m own).symm.trans found)
        subst own
        exact ⟨lock, hold, copies⟩
      · exact h
    · exact h

/-- R134: the order number and the copies of a group's order. -/
theorem prepareReject (g : GroupNo) (c : Nat) : SoundBut none x (prepareReject g c s) := by
  unfold Machine.prepareReject
  refine h.onGroup_alike g _ ?_
  split <;> exact ⟨rfl, rfl, rfl, id, id⟩

/-- R133: the reject at its point. -/
theorem issueReject (tables : s.tablesSound) (folders : s.foldersSound) : SoundBut none x (issueReject g n s) := by
  obtain ⟨low, high⟩ := copiesFor_bounds tables folders g n
  have issued := h.onEntry (g := g) (n := n) (fun e => { e with rejectIssued := true, copies := some (s.copiesFor g n) })
    fun e m own => ⟨own, rfl, ?_⟩
  · exact (issued.event ..).prepareReject g _
  · obtain ⟨lock, next, -⟩ := (h.groups g).entries e m
    subst own
    exact ⟨lock, next, rfl, by simp [low, high]⟩

/-- R136: an entry leaves its list; its lock is released where it held it. -/
theorem removed {e : Entry} (mem : e ∈ (s.group g).tracker) (stand : e.stand = n) :
    SoundBut none (.path n :: .group g :: x) (s.onGroup g fun u =>
      { u with tracker := u.tracker.filter (·.stand != n), holder := if e.holdsLock then .none else u.holder }) := by
  have sound := h.groups g
  have only (a : Entry) (m : a ∈ (s.group g).tracker) (own : a.stand = n) : a = e :=
    Option.some.inj ((Group.entryOf_eq_some sound.once m own).symm.trans (Group.entryOf_eq_some sound.once mem stand))
  have held : (s.group g).holder = .entry n ↔ e.holdsLock = true := by
    rw [sound.holder n]
    exact ⟨fun ⟨a, m, own, k⟩ => only a m own ▸ k, fun k => ⟨e, mem, stand, k⟩⟩
  have wide : SoundBut none (.path n :: .group g :: x) s := h.mono (by simp +contextual)
  have kept (m : StandNo) (other : m ≠ n) (a : Entry) (own : a.stand = m) : a ∈ (s.group g).tracker.filter (·.stand != n) ↔
      a ∈ (s.group g).tracker := by simp [own, other]
  refine wide.onGroup g _ (fun m _ => ⟨rfl, ?_, ?_⟩) ⟨fun m => ?_, ?_, ?_⟩ (fun m => ?_) id (fun m k => ?_) (by simp)
  · simp only
    split
    · next k => simp [held.2 k]
    · exact .rfl
  · exact fun ⟨a, k, own⟩ => ⟨a, (List.mem_filter.1 k).1, own⟩
  · by_cases same : m = n
    · subst same
      have gone : ¬∃ a ∈ (s.group g).tracker.filter (·.stand != m), a.stand = m ∧ a.holdsLock = true := by
        rintro ⟨a, k, own, -⟩
        simp [own] at k
      simp only [gone, iff_false]
      split
      · simp
      · next k => exact mt held.1 k
    · have before := sound.holder m
      have after : (∃ a ∈ (s.group g).tracker.filter (·.stand != n), a.stand = m ∧ a.holdsLock = true) ↔
          ∃ a ∈ (s.group g).tracker, a.stand = m ∧ a.holdsLock = true :=
        exists_congr fun a => ⟨fun ⟨k, own, l⟩ => ⟨(kept m same a own).1 k, own, l⟩, fun ⟨k, own, l⟩ => ⟨(kept m same a own).2 k, own, l⟩⟩
      simp only [after, ← before]
      split
      · next k => simp [held.2 k, Ne.symm same]
      · exact .rfl
  · exact sound.once.sublist (List.Sublist.map _ List.filter_sublist)
  · exact fun a k => sound.entries a (List.mem_filter.1 k).1
  · exact fun ⟨a, k, own⟩ => .inl ⟨a, (List.mem_filter.1 k).1, own⟩
  · rintro ⟨a, inside, own⟩
    have other : m ≠ n := by rintro rfl; simp at k
    exact ⟨a, (kept m other a own).2 inside, own⟩

/-- R136, R108. -/
theorem removeEntry {e : Entry} (mem : e ∈ (s.group g).tracker) (stand : e.stand = n) :
    SoundBut none x (removeEntry g n e.holdsLock s) := by
  have gone := h.removed mem stand
  unfold Machine.removeEntry
  refine SoundBut.settleReleased (SoundBut.settlePath ?_)
  cases k : e.holdsLock with
  | true =>
    simp only [k, if_true, releaseLock, State.onGroup_onGroup] at gone ⊢
    exact gone.event ..
  | false => simpa [k] using gone

/-- R138. -/
theorem removeMissed {e : Entry} (mem : e ∈ (s.group g).tracker) (stand : e.stand = n) :
    SoundBut none x (removeMissed g n e.holdsLock s) := by
  have gone := h.removed mem stand
  unfold Machine.removeMissed
  refine SoundBut.settleReleased (SoundBut.settlePath ?_)
  cases k : e.holdsLock with
  | true =>
    have gone := (gone.event .rejectMissed (some n) (some (.group g)) none).event .lockReleased (some n) (some (.group g)) none
    simp only [k, if_true, releaseLock, State.onGroup_takeEvent, State.onGroup_onGroup] at gone ⊢
    exact gone
  | false =>
    simp only [k] at gone ⊢
    exact gone.event ..

/-! ### The pieces of an entry's handling -/

theorem recoverWork (n : StandNo) : SoundBut none x (recoverWork n s) := by
  unfold Machine.recoverWork
  split
  · next g e count found held =>
    split
    · obtain ⟨mem, stand⟩ := Group.mem_of_entryOf (State.entryOf_eq_some.1 found).1
      exact h.removeMissed mem stand
    · exact h
  · exact h

theorem clearWork (n : StandNo) : SoundBut none x (clearWork n s) := by
  unfold Machine.clearWork
  split
  · next g e count found held =>
    split
    · obtain ⟨mem, stand⟩ := Group.mem_of_entryOf (State.entryOf_eq_some.1 found).1
      exact h.removeEntry mem stand
    · exact h
  · exact h

theorem holdsWork (tables : s.tablesSound) (n : StandNo) : SoundBut none x (holdsWork n s) := by
  unfold Machine.holdsWork
  split
  · exact h.passHolds (tables.2.1 n).2.1 _ 4
  · exact h

theorem rejectWork (tables : s.tablesSound) (folders : s.foldersSound) (n : StandNo) : SoundBut none x (rejectWork n s) := by
  unfold Machine.rejectWork
  split
  · split
    · exact h.issueReject tables folders
    · exact h
  · exact h

/-! ### The confirmation (R82, R105, R127) -/

/-- R82, R86: the entry is appended, the lock is handed over to it, and the stand goes to CUT. -/
theorem confirmPaste (tables : s.tablesSound) (state : (s.stand n).state = .pasting .brush) (v : StandSample) (contact : BitVec 32) :
    SoundBut none x (confirmPaste n v contact s) := by
  have clear := (h.stands n (by simp)).clear (by rw [state]; rfl)
  have opened := h.opened n (by rw [state]; simp)
  rw [Stand.role_splices (by rw [state]; rfl)] at opened
  have forced (e : s.holdsLock n = true) : (s.stand n).forced = false := by
    have held : (s.group (s.groupOf n)).holder = .stand n := by simpa [State.holdsLock] using e
    exact (Stand.role_holds.1 (((h.stands n (by simp)).standing.holds _).1 held)).2.1
  have entered := (opened.appendEntry (by simp [state, State.groupOf]) clear forced (checkpointCount_pos tables n) contact
    (contactLength v.length v.webSpeed contact v.time)).onStand fun st =>
      { st.onSchedule fun p =>
        { p with
          confirmReference := some v.confirmCount
          knifeTime := some (knifeInstant contact (knifeLength (s.stand n).table) v.webSpeed s.floor)
          knifeReference := some v.knifeCount } with
        state := .pasting .cut, forced := false, brushAt := none
        knifeAt := some (knifeInstant contact (knifeLength (s.stand n).table) v.webSpeed s.floor) }
  exact (entered.close ((h.fits n).cuts state _ _ _) (by simp [Stand.role, StandState.mayHold]) nofun nofun).settled
    (by simp [State.pendingFits, StandState.defers])

end SoundBut

end

end Sys2Proof.Machine
end

section
/-!
PROOFS. Every piece of work of a stand and every judgement of a field keeps a sound state sound (R8, R21 to R28, R31, R39, R72 to R88, R161,
R162).
-/

namespace Sys2Proof.Machine

/-! ### The tables and the folders through a chain of changes -/

theorem Changes.tablesSound {s t : State} (h : Changes s t) (k : s.tablesSound) : t.tablesSound := by
  have steps := h.tableSteps
  clear h
  induction steps with
  | refl => exact k
  | tail _ step ih => exact step.tablesSound ih

section

variable {x : List TableId} {s : State} {n : StandNo}

/-- R74: a latch judged changes the new reel's mark and the schedule alone. -/
theorem Stand.judgeLatch_eq (st : Stand) (angle : BitVec 12) : ∃ (f : NewReel → NewReel) (p : Option PasteSchedule),
    (∀ r, (f r).diameter = r.diameter) ∧ p.isSome = st.schedule.isSome ∧
      st.judgeLatch angle = { st with newReel := st.newReel.map f, schedule := p } := by
  unfold Stand.judgeLatch
  cases schedule : st.schedule with
  | none => exact ⟨id, none, fun _ => rfl, rfl, by simp [← schedule]⟩
  | some p =>
    cases last : p.lastMark with
    | none => exact ⟨id, some { p with lastMark := some angle, markCount := p.markCount + 1 }, fun _ => rfl, rfl, by simp [last]⟩
    | some a =>
      by_cases near : circularDistance angle a ≤ markTolerance st.table
      · exact ⟨fun r => { r with mark := some angle }, some { p with markCount := p.markCount + 1 }, fun _ => rfl, rfl,
          by simp [last, near]⟩
      · exact ⟨id, some { p with lastMark := some angle, markCount := p.markCount + 1 }, fun _ => rfl, rfl, by simp [last, near]⟩

/-- R73: learning a mark changes the new reel's mark and the schedule alone. -/
theorem Stand.learnMark_eq (st : Stand) (v : StandSample) : ∃ (f : NewReel → NewReel) (p : Option PasteSchedule),
    (∀ r, (f r).diameter = r.diameter) ∧ p.isSome = st.schedule.isSome ∧
      st.learnMark v = { st with newReel := st.newReel.map f, schedule := p } := by
  have same (p : Option PasteSchedule) : { st with schedule := p } = { st with newReel := st.newReel.map id, schedule := p } := by simp
  unfold Stand.learnMark
  split
  · next p schedule =>
    split
    · exact ⟨id, some p, fun _ => rfl, by rw [schedule], by rw [← same, ← schedule]⟩
    · simp only
      split
      · exact ⟨id, _, fun _ => rfl, by rw [schedule]; rfl, same _⟩
      · obtain ⟨f, q, keeps, some', e⟩ := Stand.judgeLatch_eq { st with schedule := some { p with markReference := v.markCount } } v.markAngle
        exact ⟨f, q, keeps, by rw [some', schedule]; rfl, e⟩
  · next schedule => exact ⟨id, none, fun _ => rfl, by rw [schedule], by rw [← same, ← schedule]⟩

/-- R73: a stand that has learned a mark is as measured as before. -/
theorem Stand.measured_map {st : Stand} {f : NewReel → NewReel} {p : Option PasteSchedule} (keeps : ∀ r, (f r).diameter = r.diameter) :
    ({ st with newReel := st.newReel.map f, schedule := p } : Stand).measured = st.measured := by
  unfold Stand.measured
  cases st.newReel <;> simp [keeps]

/-- R95, R103: the states that may hold the lock have one part. -/
theorem Stand.role_congr {st t : Stand} (before : st.state.mayHold = true) (after : t.state.mayHold = true) (table : t.table = st.table)
    (forced : t.forced = st.forced) : t.role = st.role := by
  rw [Stand.role_splices (StandState.splices_of_mayHold before), Stand.role_splices (StandState.splices_of_mayHold after), before, after,
    table, forced]

namespace SoundBut

variable (h : SoundBut none x s)

include h

/-! ### Samples (R8 step 1) -/

/-- R49. -/
theorem trackStand (n : StandNo) (v : StandSample) : SoundBut none x (trackStand n v s) :=
  h.onStand_within n _ (fun fits => fits.expiring (by simp))

/-- R70. -/
theorem referTo (splices : (s.stand n).state.splices = true) (v : StandSample) : SoundBut none x (referTo n v s) :=
  h.onStand_within n _ (fun fits => fits.refers splices _)

/-- R39. -/
theorem reportReelLow (n : StandNo) : SoundBut none x (reportReelLow n s) := by
  unfold Machine.reportReelLow
  split
  · exact (h.event ..).onStand_within n _ (fun fits => fits.expiring (by simp))
  · exact h

/-- R39, R28. -/
theorem watch (state : (s.stand n).state.feeds = true) (v : StandSample) : SoundBut none x (handleSample.watch n v s) := by
  unfold handleSample.watch
  simp only
  split
  · refine (h.reportReelLow n).loseWeb ?_
    unfold Machine.reportReelLow
    split
    · simpa using state
    · exact state
  · exact h.reportReelLow n

/-- R23: the forced mark. -/
theorem markForced (state : (s.stand n).state = .waiting) : SoundBut none x (markForced n s) := by
  unfold Machine.markForced
  split
  · refine (h.onStand n _ ⟨⟨rfl, rfl, rfl⟩, ?_, id, id, fun _ => by rw [state]; simp⟩ (fun fits => ?_) (fun _ => id)).standEvent ..
    · simp [Stand.role, state, StandState.mayHold]
    · obtain ⟨records, ⟨urgent, -, fault, code⟩, schedule, command⟩ := fits
      exact ⟨records, ⟨urgent, fun _ => .inl state, fault, code⟩, schedule, command⟩
  · exact h

/-- R24. -/
theorem tryForced (state : (s.stand n).state = .waiting) : SoundBut none x (tryForced n s) := by
  unfold Machine.tryForced
  split
  · next starts =>
    unfold State.startsForced at starts
    simp only [Bool.and_eq_true, Bool.not_eq_true'] at starts
    exact h.startForced state starts.1.1 starts.1.2
  · exact h

/-- R72 to R75: the match test, the mark and the entry to ADVANCE. -/
theorem accelerate (state : (s.stand n).state = .accelerating) (v : StandSample) : SoundBut none x (accelerate n v s) := by
  have referred := h.referTo (n := n) (by rw [state]; rfl) v
  have tested : SoundBut none x (testMatch n v (Machine.referTo n v s)) := by
    refine referred.onStand_within n _ fun fits => ?_
    exact fits.learns (by simpa [Machine.referTo] using state) rfl rfl rfl rfl rfl (by simp [Stand.onSchedule]) rfl rfl rfl rfl rfl rfl
  have here : ((testMatch n v (Machine.referTo n v s)).stand n).state = .accelerating := by
    simpa [testMatch, Machine.referTo, Stand.onSchedule] using state
  have learnt : SoundBut none x ((testMatch n v (Machine.referTo n v s)).onStand n fun st => st.learnMark v) := by
    obtain ⟨f, p, keeps, schedule, e⟩ := Stand.learnMark_eq ((testMatch n v (Machine.referTo n v s)).stand n) v
    rw [State.onStand_congr (k := fun st => { st with newReel := st.newReel.map f, schedule := p }) _ e]
    refine tested.onStand_within n _ fun fits => ?_
    exact fits.learns here rfl (Stand.measured_map keeps) rfl rfl rfl schedule rfl rfl rfl rfl rfl rfl
  have here' : (((testMatch n v (Machine.referTo n v s)).onStand n fun st => st.learnMark v).stand n).state = .accelerating := by
    obtain ⟨f, p, -, -, e⟩ := Stand.learnMark_eq ((testMatch n v (Machine.referTo n v s)).stand n) v
    rw [State.onStand_stand_self, e, ← here]
  unfold Machine.accelerate
  simp only
  split
  · exact learnt.enterFault _ (by rw [here']; rfl)
  · split
    · next ready =>
      unfold Stand.readyToAdvance at ready
      rw [Bool.and_eq_true] at ready
      unfold enterAdvance
      refine learnt.onStand n _ ⟨⟨rfl, rfl, rfl⟩, Stand.role_congr (by rw [here']; rfl) rfl rfl rfl,
        fun _ => by rw [here']; rfl, nofun, fun _ => by rw [here']; simp⟩ (fun fits => fits.advances here' ready.1 _) (fun _ _ => rfl)
    · exact learnt

/-- R26. -/
theorem acceleratingSample (state : (s.stand n).state = .accelerating) (v : StandSample) : SoundBut none x (acceleratingSample n v s) := by
  unfold Machine.acceleratingSample
  split
  · exact h.enterFault _ (by rw [state]; rfl)
  · split
    · exact h.enterFault _ (by rw [state]; rfl)
    · split
      · exact h.abortForSpeed state
      · exact h.accelerate state v

/-- R76, R81. -/
theorem advanceSample (state : (s.stand n).state = .pasting .advance) (v : StandSample) : SoundBut none x (advanceSample n v s) := by
  unfold Machine.advanceSample
  split
  · exact h.enterFault _ (by rw [state]; rfl)
  · split
    · split
      · unfold enterBrush
        refine h.onStand n _ ⟨⟨rfl, rfl, rfl⟩, Stand.role_congr (by rw [state]; rfl) rfl rfl rfl,
          fun _ => by rw [state]; rfl, nofun, fun _ => by rw [state]; simp⟩ (fun fits => fits.brushes state _ _ _ _) (fun _ _ => rfl)
      · exact h
    · exact h

/-- R82. -/
theorem brushSample (tables : s.tablesSound) (state : (s.stand n).state = .pasting .brush) (v : StandSample) :
    SoundBut none x (brushSample n v s) := by
  unfold Machine.brushSample
  split
  · exact h.enterFault _ (by rw [state]; rfl)
  · split
    · split
      · split
        · exact h.confirmPaste tables state v _
        · exact h
      · exact h
    · exact h

/-- R87. -/
theorem cutSample (state : (s.stand n).state = .pasting .cut) (v : StandSample) : SoundBut none x (cutSample n v s) := by
  unfold Machine.cutSample
  split
  · exact h.enterFault _ (by rw [state]; rfl)
  · split
    · split
      · have wide := h.mono (y := .stand n :: x) (by simp +contextual)
        refine SoundBut.settleStand (SoundBut.raiseFlag (SoundBut.standEvent (wide.onStand n _ ⟨⟨rfl, rfl, rfl⟩, ?_, ?_, ?_,
          fun _ => by rw [state]; simp⟩ (fun fits => fits.completes state v) (by simp)) ..) ..)
        · simp [Stand.role, state, StandState.mayHold]
        · exact nofun
        · exact nofun
      · exact h
    · exact h

/-- R8 step 1. -/
theorem handleSample (tables : s.tablesSound) (n : StandNo) (v : StandSample) : SoundBut none x (handleSample n v s) := by
  have tracked := h.trackStand n v
  have same : ((Machine.trackStand n v s).stand n).state = (s.stand n).state := by simp [Machine.trackStand]
  have referred (splices : (s.stand n).state.splices = true) := tracked.referTo (n := n) (by rw [same]; exact splices) v
  have same' : ((Machine.referTo n v (Machine.trackStand n v s)).stand n).state = (s.stand n).state := by
    simp [Machine.referTo, same]
  unfold Machine.handleSample
  cases e : (s.stand n).state with
  | offline => exact h
  | parked => exact h
  | fault => exact h
  | running => exact tracked.watch (by rw [same, e]; rfl) v
  | loaded => exact tracked.watch (by rw [same, e]; rfl) v
  | ranging => exact tracked.watch (by rw [same, e]; rfl) v
  | ready =>
    simp only
    split
    · exact tracked.loseWeb (by rw [same, e]; rfl)
    · split
      · exact tracked.enterWaiting false (same.trans e)
      · exact tracked
  | waiting =>
    simp only
    split
    · exact tracked.loseWeb (by rw [same, e]; rfl)
    · refine (tracked.markForced (same.trans e)).tryForced ?_
      unfold Machine.markForced
      split
      · simpa using same.trans e
      · exact same.trans e
  | accelerating => exact tracked.acceleratingSample (same.trans e) v
  | pasting p =>
    cases p with
    | advance => exact (referred (by rw [e]; rfl)).advanceSample (same'.trans e) v
    | brush =>
      have kept := ((Changes.none s).trackStand n v).referTo n v
      exact (referred (by rw [e]; rfl)).brushSample (kept.tablesSound tables) (same'.trans e) v
    | cut => exact (referred (by rw [e]; rfl)).cutSample (same'.trans e) v

theorem sampleWork (tables : s.tablesSound) (n : StandNo) : SoundBut none x (sampleWork n s) := by
  unfold Machine.sampleWork
  split
  · exact h.handleSample tables n _
  · exact h

/-! ### Deadlines and ring loss (R8 step 3, R31) -/

theorem deadlineWork (n : StandNo) : SoundBut none x (deadlineWork n s) := by
  unfold Machine.deadlineWork
  split
  case h_5 => exact h
  all_goals
    next state _ =>
    split
    · exact h.enterFault _ (by rw [state]; rfl)
    · exact h

theorem standRingLoss (n : StandNo) : SoundBut none x (standRingLoss n s) := by
  unfold Machine.standRingLoss
  split
  · next state => exact h.abortWait state
  · next state => exact h.enterFault _ (by rw [state]; rfl)
  · next state => exact h.enterFault _ (by rw [state]; rfl)
  · next state => exact h.enterFault _ (by rw [state]; rfl)
  · next state => exact h.enterFault _ (by rw [state]; rfl)
  · exact h

/-! ### Judgements (R161, R162) -/

/-- R160: a stand's monitor is changed. -/
theorem standMonitor (n : StandNo) (f : Stand → Monitor StandSample) :
    SoundBut none x (s.onStand n fun st => { st with monitor := f st }) :=
  h.onStand_within n _ fun ⟨records, marks, schedule, command⟩ => ⟨records, marks, schedule, command⟩

/-- R160: a gauge's monitor is changed. -/
theorem gaugeMonitor (g : GaugeNo) (f : Gauge → Monitor GaugeSample) :
    SoundBut none x (s.onGauge g fun u => { u with monitor := f u }) :=
  h.onGauge_alike g _ ⟨rfl, rfl, id, id⟩

/-- R160: a group's monitor is changed. -/
theorem groupMonitor (g : GroupNo) (f : Group → Monitor Nat) : SoundBut none x (s.onGroup g fun u => { u with monitor := f u }) :=
  h.onGroup_alike g _ ⟨rfl, rfl, rfl, id, id⟩

theorem acceptField (f : InputField) (ws : List Word) : SoundBut none x (acceptField f ws s) := by
  unfold Machine.acceptField
  cases f with
  | stand n => exact h.standMonitor n _
  | gauge g => exact h.gaugeMonitor g _
  | folder g => exact h.groupMonitor g _

theorem repeatField (f : InputField) : SoundBut none x (repeatField f s) := by
  unfold Machine.repeatField
  cases f with
  | stand n => exact h.standMonitor n _
  | gauge g => exact h.gaugeMonitor g _
  | folder g => exact h.groupMonitor g _

theorem forgetField (f : InputField) : SoundBut none x (forgetField f s) := by
  unfold Machine.forgetField
  cases f with
  | stand n => exact h.standMonitor n _
  | gauge g => exact h.gaugeMonitor g _
  | folder g => exact h.groupMonitor g _

theorem setStale (f : InputField) : SoundBut none x (setStale f s) := by
  unfold Machine.setStale
  cases f with
  | stand n => exact h.standMonitor n _
  | gauge g => exact h.gaugeMonitor g _
  | folder g => exact h.groupMonitor g _

theorem fieldEvent (k : EventKind) (f : InputField) : SoundBut none x (fieldEvent k f s) := by
  cases f <;> exact h.event ..

theorem judgeWork (f : InputField) : SoundBut none x (judgeWork f s) := by
  have judged (b : Option (List Word)) {s : State} (h : SoundBut none x s) : SoundBut none x (judgeField f b s) := by
    unfold judgeField
    split
    · split
      · unfold takeField
        refine SoundBut.onFrame (SoundBut.acceptField ?_ ..) _
        split
        · exact h.fieldEvent ..
        · exact h
      · exact h.repeatField f
    · exact h.repeatField f
  unfold Machine.judgeWork
  split
  · simp only
    split
    · exact (judged _ (h.onFrame _)).forgetField f
    · exact judged _ (h.onFrame _)
  · exact h

theorem staleWork (f : InputField) : SoundBut none x (staleWork f s) := by
  unfold Machine.staleWork
  split
  · have stale := (h.setStale f).fieldEvent .samplesStale f
    unfold becomeStale
    cases f with
    | stand n => exact stale.raiseFlag n .stale
    | gauge g => exact stale
    | folder g => exact stale
  · exact h

/-! ### Every piece of work -/

/-- R164: every piece of a frame's work keeps a sound state sound. -/
theorem perform (tables : s.tablesSound) (folders : s.foldersSound) (w : Work) : SoundBut none x (perform w s) := by
  unfold Machine.perform
  cases w with
  | judge f => exact h.judgeWork f
  | stale f => exact h.staleWork f
  | recover n => simp only; split <;> [exact h.recoverWork n; exact h]
  | holds n => simp only; split <;> [exact h.holdsWork tables n; exact h]
  | reject n => simp only; split <;> [exact h.rejectWork tables folders n; exact h]
  | clear n => simp only; split <;> [exact h.clearWork n; exact h]
  | sample n => simp only; split <;> [exact h.sampleWork tables n; exact h]
  | deadline n => exact h.deadlineWork n
  | result g => simp only; split <;> [exact h.gaugeResultWork g; exact h]
  | start g => simp only; split <;> [exact h.gaugeStartWork g; exact h]
  | timeout g => exact h.gaugeDeadlineWork g
  | grant g => exact h.considerGrant g

/-- R166: every owner's ring loss keeps a sound state sound. -/
theorem loseAt (o : LossOwner) : SoundBut none x (loseAt s o) := by
  cases o with
  | stand n => exact h.standRingLoss n
  | gauge g => exact h.gaugeRingLoss g

end SoundBut

end

end Sys2Proof.Machine
end

section
/-!
PROOFS. Every operation of every command keeps a sound state sound; so every step does, and the machine after reset is sound.
-/

namespace Sys2Proof.Machine

/-! ### The stand orders (R9 to R20) -/

section

variable {x : List TableId} {s t : State} {n : StandNo}

/-- R4, R37: re-taking the baseline keeps all but the expiring-reel record, which stays present. -/
theorem Stand.retakeBaseline_eq (st : Stand) :
    ∃ e, e.isSome = st.expiring.isSome ∧ st.retakeBaseline = { st with expiring := e } := by
  unfold Stand.retakeBaseline
  split
  · exact ⟨_, by simp, rfl⟩
  · exact ⟨st.expiring, rfl, rfl⟩

/-- R4: the settled state is at rest, and fits the new-reel record. -/
theorem Stand.settled_fits (st : Stand) : st.settled.rests = true ∧ st.settled.defers = false ∧
    (st.settled = .running → st.newReel = none) ∧ (st.settled = .loaded ∨ st.settled = .ranging → st.unmeasured = true) ∧
    (st.settled = .ready → st.measured = true) ∧ (st.settled.tracks = true → st.webHeld = true) := by
  unfold Stand.settled
  split
  · next web =>
    cases reel : st.newReel with
    | none => simp [StandState.rests, StandState.defers, web]
    | some r =>
      cases d : r.diameter <;> simp [StandState.rests, StandState.defers, Stand.measured, Stand.unmeasured, web, reel, d]
  · simp [StandState.rests, StandState.defers, StandState.tracks]

namespace SoundBut

variable (h : SoundBut none x s)

include h

/-- R13: RESUME. -/
theorem resume (state : (s.stand n).state = .parked) (web : (s.stand n).webHeld = true) : SoundBut none x (s.onStand n Stand.resumed) := by
  obtain ⟨rests, defers, running, loaded, ready, -⟩ := (s.stand n).settled_fits
  have resumed : ∃ e : Option ExpiringReel, e.isSome = true ∧
      (s.stand n).resumed = { s.stand n with expiring := e, state := (s.stand n).settled } := by
    unfold Stand.resumed
    cases old : (s.stand n).expiring with
    | none =>
      refine ⟨_, ?_, rfl⟩
      unfold Stand.webHeld at web
      cases held : (s.stand n).monitor.held <;> simp_all
    | some r =>
      obtain ⟨e, some', same⟩ := (s.stand n).retakeBaseline_eq
      exact ⟨e, by rw [some', old]; rfl, by simp only [same]⟩
  obtain ⟨e, present, same⟩ := resumed
  rw [State.onStand_congr (k := fun st => { st with expiring := e, state := st.settled }) _ same]
  refine h.moves _ (by rw [state]; simp) (by rw [state]; rfl) ⟨rfl, rfl, rfl⟩ defers fun fits => ?_
  obtain ⟨urgent, forced⟩ := fits.unmarked (by simp [state]) (by rw [state]; rfl)
  exact fits.settles ⟨rfl, rfl, rfl, rfl, rfl, rfl, rfl⟩ (by rw [state]; rfl) (by simp [state]) rests
    (Stand.recordsFit_of_rest rests running loaded ready fun _ => present) urgent forced

/-- R20: CLEAR-FAULT. -/
theorem clearFault (state : (s.stand n).state = .fault) : SoundBut none x (s.onStand n Stand.faultCleared) := by
  obtain ⟨rests, defers, running, loaded, ready, -⟩ := (s.stand n).settled_fits
  have cleared : ∃ e : Option ExpiringReel, e.isSome = (s.stand n).expiring.isSome ∧
      (s.stand n).faultCleared = { s.stand n with expiring := e, faultCode := none, state := (s.stand n).settled } := by
    unfold Stand.faultCleared
    simp only
    split
    · exact ⟨_, rfl, rfl⟩
    · obtain ⟨e, some', same⟩ := (s.stand n).retakeBaseline_eq
      exact ⟨e, some', by simp only [same]⟩
  obtain ⟨e, present, same⟩ := cleared
  rw [State.onStand_congr (k := fun st => { st with expiring := e, faultCode := none, state := st.settled }) _ same]
  refine h.moves _ (by rw [state]; simp) (by rw [state]; rfl) ⟨rfl, rfl, rfl⟩ defers fun fits => ?_
  obtain ⟨urgent, forced⟩ := fits.unmarked (by simp [state]) (by rw [state]; rfl)
  obtain ⟨a, b, c, d, e', f⟩ := fits.still (by rw [state]; rfl)
  exact Stand.fits_of_rest ⟨a, b, c, d, e', f⟩ rests
    (Stand.recordsFit_of_rest rests running loaded ready fun _ => present.trans (fits.records.2.2.2 (.inr state))) urgent forced rfl

/-- R14: MOUNT. -/
theorem mountReel (m : MountValues) (idle : (s.stand n).state.feedsIdle = true) : SoundBut none x (mountReel n m s) := by
  have state : (s.stand n).state.feeds = true ∧ (s.stand n).state.defers = false ∧ (s.stand n).state ≠ .waiting := by
    cases e : (s.stand n).state <;> simp_all [StandState.feedsIdle, StandState.feeds, StandState.defers]
  obtain ⟨feeds, defers, waits⟩ := state
  refine h.moves _ (StandState.live_of_feeds feeds).2 defers ⟨rfl, rfl, rfl⟩ (by simp only; split <;> rfl) fun fits => ?_
  obtain ⟨urgent, forced⟩ := fits.unmarked waits (StandState.mayHold_of_feeds feeds)
  refine fits.settles ⟨rfl, rfl, rfl, rfl, rfl, rfl, rfl⟩ (StandState.splices_of_feeds feeds) (StandState.live_of_feeds feeds)
    (by simp only; split <;> rfl) (Stand.recordsFit_of_rest (by simp only; split <;> rfl) ?_ ?_ ?_
    fun _ => fits.tracks (StandState.tracks_of_feeds feeds)) urgent forced
  · simp only; split <;> simp
  · simp only
    split <;> simp_all [Stand.unmeasured, MountValues.reel]
  · simp only
    split <;> simp_all [Stand.measured, MountValues.reel]

/-- R12: PARK. -/
theorem park (idle : (s.stand n).state.feedsIdle = true) : SoundBut none x (s.onStand n fun st => { st with state := .parked }) := by
  have state : (s.stand n).state.feeds = true ∧ (s.stand n).state.defers = false ∧ (s.stand n).state ≠ .waiting := by
    cases e : (s.stand n).state <;> simp_all [StandState.feedsIdle, StandState.feeds, StandState.defers]
  obtain ⟨feeds, defers, waits⟩ := state
  refine h.moves _ (StandState.live_of_feeds feeds).2 defers ⟨rfl, rfl, rfl⟩ rfl fun fits => ?_
  obtain ⟨urgent, forced⟩ := fits.unmarked waits (StandState.mayHold_of_feeds feeds)
  exact fits.settles ⟨rfl, rfl, rfl, rfl, rfl, rfl, rfl⟩ (StandState.splices_of_feeds feeds) (StandState.live_of_feeds feeds) rfl
    (Stand.recordsFit_of_rest rfl nofun (by simp) nofun nofun) urgent forced

/-- R10: ENABLE. -/
theorem enableStand (state : (s.stand n).state = .offline) (ready : s.tablesReady n = true) : SoundBut none x (enableStand n s) := by
  have sound := h.stands n (by simp)
  have idle : (s.stand n).state.defers = false := by rw [state]; rfl
  have standing := sound.standing
  rw [Stand.role_of_defers idle] at standing
  have wide := h.mono (y := .stand n :: x) (by simp +contextual)
  have opened : Opened n (s.stand n) .none (.stand n :: x) s := ⟨wide.openAt n, by simp, rfl, standing, ready, sound.loadReady⟩
  have fits : ({ s.stand n with state := .parked, faultCode := none } : Stand).Fits := by
    obtain ⟨a, b, c, d, e, f⟩ := sound.fits.still (by rw [state]; rfl)
    obtain ⟨urgent, forced⟩ := sound.fits.unmarked (by simp [state]) (by rw [state]; rfl)
    exact Stand.fits_of_rest ⟨a, b, c, d, e, f⟩ rfl (Stand.recordsFit_of_rest rfl nofun (by simp) nofun nofun) urgent forced rfl
  have parked := (opened.onStand fun st => { st with state := .parked, faultCode := none }).close_rest fits rfl
  unfold Machine.enableStand State.putFlags
  refine SoundBut.onResponder ?_ _
  refine { parked with pending := fun id m => ?_ }
  by_cases e : id = .stand n
  · subst e
    intro p
    have := h.pending _ m (by simpa using p)
    rw [idle] at this
    cases this
  · exact parked.pending id (by simp [e, m])

omit h in
/-- R9: every stand order keeps a sound state sound. -/
theorem order (h : SoundBut none x s) (o : Ordering s t) : SoundBut none x t := by
  cases o with
  | enable n offline ready => exact h.enableStand offline ready
  | disable n live pasting => exact h.disableStand live pasting
  | park n idle => exact h.park idle
  | resume n parked web => exact h.resume parked web
  | mount n m idle => exact h.mountReel m idle
  | unmount n admits => exact h.unmountReel admits
  | range n g from_ gauge => exact h.rangeReel g from_ gauge
  | auto n on =>
    exact h.onStand_within n _ fun ⟨records, marks, schedule, command⟩ => ⟨records, marks, schedule, command⟩
  | spliceNow n ready => exact h.enterWaiting true ready
  | abortWait n waiting => exact h.abortWait waiting
  | abortSplice n state => exact h.abortSplice state
  | clearFault n fault => exact h.clearFault fault

end SoundBut

end

/-! ### Table loads (R42, R122, R140, R143, R173) -/

/-- R44: a load that is not refused keeps a sound state sound, applied or held pending. -/
theorem SoundBut.load {s t : State} (h : SoundBut none [] s) (k : Loading s t) : SoundBut none [] t := by
  cases k with
  | part l fits => exact SoundBut.of_blocks (s := s) rfl rfl rfl rfl h
  | stand n l fits free =>
    obtain ⟨-, none_, -, -, named⟩ := (standLoadRefusal_eq_none l s n).1 fits
    have loaded m := (h.mono (y := [.stand n]) (by simp)).standLoaded l m free named
    unfold applyStandLoad
    refine SoundBut.markMoved ?_ ..
    have same (m : Monitor StandSample) : ({ s.stand n with table := l.over (s.stand n).table, loaded := true, monitor := m } : Stand) =
        (s.stand n).loadedBy l m := by simp [Stand.loadedBy, none_]
    rw [State.onStand_congr (k := Stand.loadedBy l _) _ (same _)]
    exact loaded _
  | standHeld n l fits held =>
    obtain ⟨-, -, -, -, named⟩ := (standLoadRefusal_eq_none l s n).1 fits
    have live : (s.stand n).state ≠ .offline := by intro e; rw [e] at held; cases held
    have sound := h.stands n (by simp)
    have wide := h.mono (y := [.stand n]) (by simp)
    have own : StandSound (s.onStand n fun st => { st with pendingLoad := some l }) n := by
      constructor
      · rw [State.onStand_stand_self]
        obtain ⟨records, marks, schedule, command⟩ := sound.fits
        exact ⟨records, marks, schedule, command⟩
      · rw [State.onStand_stand_self]
        exact Standing.of_seen (s := s) (fun _ => .refl ..) (fun _ => .refl ..) sound.standing
      · rw [State.onStand_stand_self]; exact sound.clear
      · rw [State.onStand_stand_self]; exact sound.gauged
      · rw [State.onStand_stand_self]
        exact fun o => StaysLoaded.tablesReady (s := s) (t := s.onStand n fun st => { st with pendingLoad := some l })
          ⟨fun _ => id, fun _ => id, fun _ => id⟩ (by simp) (by simp) (sound.ready o)
      · rw [State.onStand_stand_self]
        rintro k e
        obtain rfl : l = k := Option.some.inj e
        exact named.resolve_left live
    exact (((wide.openAt n).onStand_hole _ (by simp)).close own).settled (by simp [State.pendingFits, held])
  | path n l fits free => exact h.applyPathLoad n l free
  | pathHeld n l fits held => exact h.onPath n _ (fun _ => rfl) id (fun _ _ => held)
  | group g l fits => exact h.applyGroupLoad g l
  | groupHeld g l fits held =>
    have sound := h.groups g
    exact h.onGroup g _ (fun m _ => ⟨rfl, .rfl, id⟩) ⟨sound.holder, sound.once, sound.entries⟩ (fun _ => .inl) id (fun _ _ => id)
      (fun _ _ => held)
  | gauge g l fits => exact h.applyGaugeLoad g l
  | gaugeHeld g l fits held =>
    have sound := h.gauges g
    exact h.onGauge g _ (fun m _ => ⟨.rfl⟩) ⟨sound.once, sound.apart⟩ id (fun _ _ => held)

/-! ### RESTART PART (R182) -/

/-- A stand in OFFLINE without a load held pending. -/
structure Stand.Restored (st : Stand) : Prop where
  fits : st.Fits
  offline : st.state = .offline
  load : st.pendingLoad = none

/-- A group without holder, waiting stands, entries or a load held pending. -/
structure Group.Restored (u : Group) : Prop where
  holder : u.holder = .none
  waiting : u.waiting = Vector.replicate 8 false
  tracker : u.tracker = []
  load : u.pendingLoad = none

/-- A gauge that neither queues nor measures a stand, without a load held pending. -/
structure Gauge.Restored (u : Gauge) : Prop where
  queue : u.queue = []
  measures : ∀ m d, u.state ≠ .measuring m d
  load : u.pendingLoad = none

/-- R182: a state in which every block has restarted. -/
structure State.Restored (s : State) : Prop where
  stand : ∀ n, (s.stand n).Restored
  group : ∀ g, (s.group g).Restored
  gauge : ∀ g, (s.gauge g).Restored
  path : ∀ n, (s.path n).pendingLoad = none

/-- R182: a state in which every block has restarted is sound. -/
theorem State.Restored.sound {s : State} (h : s.Restored) : SoundBut none [] s := by
  have empty (n : StandNo) : s.hasEntry n = false := by
    rw [Bool.eq_false_iff, ne_eq, State.hasEntry_iff_lists]
    rintro ⟨g, e, m, -⟩
    rw [(h.group g).tracker] at m
    cases m
  refine ⟨fun n _ => ?_, fun g => ⟨fun n => ?_, ?_, ?_⟩, fun g k n a => ?_, fun g => ⟨?_, ?_⟩, fun id _ => ?_⟩
  · obtain ⟨fits, offline, load⟩ := h.stand n
    refine ⟨fits, ⟨fun g => ?_, fun g => ?_, fun g => ?_⟩, fun _ => empty n, ?_, fun live => absurd offline live, by simp [load]⟩
    · simp [(h.group g).waiting, Stand.role, offline]
    · simp [(h.group g).holder, Stand.role, offline, StandState.mayHold]
    · simp [(h.gauge g).queue, Gauge.apart_idle (h.gauge g).measures, Stand.role, offline]
    · simp [offline]
  · simp [(h.group g).holder, (h.group g).tracker]
  · simp [(h.group g).tracker]
  · simp [(h.group g).tracker]
  · obtain ⟨e, m, -⟩ := a
    rw [(h.group g).tracker] at m
    cases m
  · simp [(h.gauge g).queue]
  · simp [(h.gauge g).queue]
  · cases id <;> simp [State.pendingFits, (h.stand _).load, (h.group _).load, (h.gauge _).load, h.path]

/-- What each step of a list brings about for its own unit and keeps for the others, the list brings about for its units. -/
theorem foldl_brings {α : Type} {f : State → α → State} {Q : State → Prop} {P : State → α → Prop}
    (own : ∀ s a, Q s → P (f s a) a) (keeps : ∀ s a b, a ≠ b → P s b → P (f s a) b) (inv : ∀ s a, Q s → Q (f s a)) (l : List α)
    {s : State} (q : Q s) : Q (l.foldl f s) ∧ ∀ a, a ∈ l ∨ P s a → P (l.foldl f s) a := by
  classical
  induction l generalizing s with
  | nil => exact ⟨q, fun a h => h.resolve_left (by simp)⟩
  | cons b l ih =>
    obtain ⟨q', all⟩ := ih (inv s b q)
    refine ⟨q', fun a h => all a ?_⟩
    by_cases e : b = a
    · exact .inr (e ▸ own s b q)
    · exact (h.imp (fun m => (List.mem_cons.1 m).resolve_left (Ne.symm e)) (keeps s b a e))

/-- What every step of a list leaves, the list leaves. -/
theorem foldl_leaves {α β : Type} {f : State → α → State} {p : State → β} (same : ∀ s a, p (f s a) = p s) (l : List α) (s : State) :
    p (l.foldl f s) = p s := by
  induction l generalizing s with
  | nil => rfl
  | cons a l ih => exact (ih (f s a)).trans (same s a)

section

variable (s : State)

/-- R182: the restart of a stand changes its stand alone. -/
theorem restartStand_rest (n : StandNo) : (restartStand s n).groups = s.groups ∧ (restartStand s n).gauges = s.gauges ∧
    (restartStand s n).paths = s.paths ∧ ∀ m, n ≠ m → (restartStand s n).stand m = s.stand m := by
  unfold restartStand releaseStandLoad
  split
  · unfold applyStandLoad
    refine ⟨by simp, by simp, by simp, fun m other => ?_⟩
    simp [State.onStand_stand_ne _ _ _ _ other]
  · exact ⟨rfl, rfl, rfl, fun m other => by simp [State.onStand_stand_ne _ _ _ _ other]⟩

/-- R182: the restart of a gauge changes its gauge alone. -/
theorem restartGauge_rest (g : GaugeNo) : (restartGauge s g).stands = s.stands ∧ (restartGauge s g).groups = s.groups ∧
    (restartGauge s g).paths = s.paths ∧ ∀ k, g ≠ k → (restartGauge s g).gauge k = s.gauge k := by
  have released (t : State) : (releaseGaugeLoad g t).stands = t.stands ∧ (releaseGaugeLoad g t).groups = t.groups ∧
      (releaseGaugeLoad g t).paths = t.paths ∧ ∀ k, g ≠ k → (releaseGaugeLoad g t).gauge k = t.gauge k := by
    unfold releaseGaugeLoad
    split
    · unfold applyGaugeLoad
      refine ⟨by simp, by simp, by simp, fun m other => ?_⟩
      simp [State.onGauge_gauge_ne _ _ _ _ other]
    · exact ⟨rfl, rfl, rfl, fun _ _ => rfl⟩
  obtain ⟨a, b, c, d⟩ := released (s.onGauge g fun u => { u with queue := [] })
  have d' (k : GaugeNo) (other : g ≠ k) := (d k other).trans (s.onGauge_gauge_ne g k _ other)
  unfold restartGauge
  simp only
  split
  · exact ⟨a, b, c, fun k other => (State.onGauge_gauge_ne _ _ _ _ other).trans (d' k other)⟩
  · exact ⟨a, b, c, d'⟩

/-- R182: the restart of a group changes its group alone. -/
theorem restartGroup_rest (g : GroupNo) : (restartGroup s g).stands = s.stands ∧ (restartGroup s g).gauges = s.gauges ∧
    (restartGroup s g).paths = s.paths ∧ ∀ k, g ≠ k → (restartGroup s g).group k = s.group k := by
  have released (t : State) (same : t.stands = s.stands ∧ t.groups = s.groups ∧ t.gauges = s.gauges ∧ t.paths = s.paths)
      (f : Group → Group) : (releaseGroupLoad g (t.onGroup g f)).stands = s.stands ∧ (releaseGroupLoad g (t.onGroup g f)).gauges = s.gauges ∧
      (releaseGroupLoad g (t.onGroup g f)).paths = s.paths ∧
      ∀ k, g ≠ k → (releaseGroupLoad g (t.onGroup g f)).group k = s.group k := by
    obtain ⟨a, b, c, d⟩ := same
    have group (k : GroupNo) : t.group k = s.group k := by simp only [State.group, b]
    unfold releaseGroupLoad
    split
    · unfold applyGroupLoad
      refine ⟨by simpa using a, by simpa using c, by simpa using d, fun m other => ?_⟩
      simp [State.onGroup_group_ne _ _ _ _ other, group]
    · exact ⟨a, c, d, fun k other => (State.onGroup_group_ne _ _ _ _ other).trans (group k)⟩
  unfold restartGroup
  refine released _ ?_ _
  split
  · exact ⟨rfl, rfl, rfl, rfl⟩
  · exact ⟨rfl, rfl, rfl, rfl⟩

/-- R182: the restart of a path table changes its path table alone. -/
theorem restartPath_rest (n : StandNo) : (restartPath s n).stands = s.stands ∧ (restartPath s n).groups = s.groups ∧
    (restartPath s n).gauges = s.gauges ∧ ∀ m, n ≠ m → (restartPath s n).path m = s.path m := by
  unfold restartPath releasePathLoad
  split
  · unfold applyPathLoad
    refine ⟨by simp, by simp, by simp, fun m other => ?_⟩
    simp [State.onPath_path_ne _ _ _ _ other]
  · exact ⟨rfl, rfl, rfl, fun _ _ => rfl⟩

variable {s}

/-- R7: a stand after its restart. -/
theorem restartStand_restored {n : StandNo} (fits : (s.stand n).Fits) (idle : (s.stand n).state.isPasting = false) :
    ((restartStand s n).stand n).Restored := by
  have restarted : (s.stand n).restarted.Fits := by
    have stops : (s.stand n).restarted.rotation ≠ .accel ∧ (s.stand n).restarted.arm ≠ .advance := by
      by_cases accelerating : (s.stand n).state = .accelerating
      · simp [Stand.restarted, accelerating]
      · have still := fits.still (by
          cases e : (s.stand n).state <;> simp_all [StandState.splices, StandState.isPasting])
        simpa [Stand.restarted, accelerating] using ⟨still.rotation, still.arm⟩
    exact Stand.fits_of_still ⟨rfl, stops.1, stops.2, rfl, rfl, rfl⟩ rfl
      ⟨nofun, by simp [Stand.restarted], by simp [Stand.restarted, StandState.splices], by simp [Stand.restarted, StandState.tracks]⟩
      nofun nofun nofun nofun
  unfold restartStand releaseStandLoad
  split
  · next l load =>
    obtain ⟨m, e⟩ := applyStandLoad_self (s.onStand n Stand.restarted) l n
    have self : (((applyStandLoad n l (s.onStand n Stand.restarted)).onStand n fun st => { st with pendingLoad := none }).standEvent
        .tableApplied n).stand n = (s.stand n).restarted.loadedBy l m := by
      simp [e, Stand.loadedBy]
    rw [self]
    exact ⟨restarted.load rfl .., rfl, rfl⟩
  · next load => exact ⟨by simpa using restarted, by simp [Stand.restarted], load⟩

/-- R123: a gauge after its restart. -/
theorem restartGauge_restored (g : GaugeNo) : ((restartGauge s g).gauge g).Restored := by
  have released : ((releaseGaugeLoad g (s.onGauge g fun u => { u with queue := [] })).gauge g).queue = [] ∧
      ((releaseGaugeLoad g (s.onGauge g fun u => { u with queue := [] })).gauge g).pendingLoad = none := by
    unfold releaseGaugeLoad
    split
    · next l load =>
      obtain ⟨m, e⟩ := applyGaugeLoad_self (s.onGauge g fun u => { u with queue := [] }) l g
      simp [e]
    · next load => exact ⟨by simp, load⟩
  obtain ⟨queue, load⟩ := released
  unfold restartGauge
  simp only
  split
  · unfold cancelMeasure
    rw [State.onGauge_gauge_self]
    exact ⟨queue, nofun, load⟩
  · next other => exact ⟨queue, other, load⟩

/-- R110, R144: a group after its restart. -/
theorem restartGroup_restored (g : GroupNo) : ((restartGroup s g).group g).Restored := by
  have released (t : State) : ((releaseGroupLoad g (t.onGroup g fun u =>
      { u with holder := .none, held := false, waiting := Vector.replicate 8 false, tracker := [] })).group g).Restored := by
    unfold releaseGroupLoad
    split
    · next l load =>
      obtain ⟨m, e⟩ := applyGroupLoad_self (t.onGroup g fun u =>
        { u with holder := .none, held := false, waiting := Vector.replicate 8 false, tracker := [] }) l g
      constructor <;> simp [e]
    · next load => exact ⟨by simp, by simp, by simp, load⟩
  exact released _

/-- R144: a path table after its restart. -/
theorem restartPath_restored (n : StandNo) : ((restartPath s n).path n).pendingLoad = none := by
  unfold restartPath releasePathLoad
  split
  · simp
  · next load => exact load

/-- R182: every block after the restart. -/
theorem restored_restartBlocks (fits : ∀ n, (s.stand n).Fits) (idle : ∀ n, (s.stand n).state.isPasting = false) :
    (restartBlocks s).Restored := by
  unfold restartBlocks
  set a := (List.finRange 8).foldl restartStand s with ha
  set b := (List.finRange 4).foldl restartGauge a with hb
  set c := (List.finRange 4).foldl restartGroup b with hc
  set d := (List.finRange 8).foldl restartPath c with hd
  have stands : ∀ n, (a.stand n).Restored := fun n =>
    (foldl_brings (Q := fun u => ∀ m, (u.stand m).Fits ∧ (u.stand m).state.isPasting = false)
      (P := fun u m => (u.stand m).Restored) (fun u m q => restartStand_restored (q m).1 (q m).2)
      (fun u m k other r => by rw [(restartStand_rest u m).2.2.2 k other]; exact r)
      (fun u m q k => by
        by_cases e : m = k
        · subst e
          have r := restartStand_restored (q m).1 (q m).2
          exact ⟨r.fits, by rw [r.offline]; rfl⟩
        · rw [(restartStand_rest u m).2.2.2 k e]; exact q k)
      (List.finRange 8) fun m => ⟨fits m, idle m⟩).2 n (.inl (List.mem_finRange n))
  have gauges : ∀ g, (b.gauge g).Restored := fun g =>
    (foldl_brings (Q := fun _ => True) (P := fun u k => (u.gauge k).Restored) (fun u k _ => restartGauge_restored k)
      (fun u k l other r => by rw [(restartGauge_rest u k).2.2.2 l other]; exact r) (fun _ _ _ => trivial)
      (List.finRange 4) trivial).2 g (.inl (List.mem_finRange g))
  have groups : ∀ g, (c.group g).Restored := fun g =>
    (foldl_brings (Q := fun _ => True) (P := fun u k => (u.group k).Restored) (fun u k _ => restartGroup_restored k)
      (fun u k l other r => by rw [(restartGroup_rest u k).2.2.2 l other]; exact r) (fun _ _ _ => trivial)
      (List.finRange 4) trivial).2 g (.inl (List.mem_finRange g))
  have paths : ∀ n, (d.path n).pendingLoad = none := fun n =>
    (foldl_brings (Q := fun _ => True) (P := fun u m => (u.path m).pendingLoad = none) (fun u m _ => restartPath_restored m)
      (fun u m k other r => by rw [(restartPath_rest u m).2.2.2 k other]; exact r) (fun _ _ _ => trivial)
      (List.finRange 8) trivial).2 n (.inl (List.mem_finRange n))
  have groups' : d.groups = c.groups := foldl_leaves (fun u m => (restartPath_rest u m).2.1) _ _
  have gauges' : d.gauges = b.gauges :=
    (foldl_leaves (fun u m => (restartPath_rest u m).2.2.1) _ _).trans (foldl_leaves (fun u m => (restartGroup_rest u m).2.1) _ _)
  have stands' : d.stands = a.stands :=
    ((foldl_leaves (fun u m => (restartPath_rest u m).1) _ _).trans (foldl_leaves (fun u m => (restartGroup_rest u m).1) _ _)).trans
      (foldl_leaves (fun u m => (restartGauge_rest u m).1) _ _)
  exact ⟨fun n => by simpa only [State.stand, stands'] using stands n, fun g => by simpa only [State.group, groups'] using groups g,
    fun g => by simpa only [State.gauge, gauges'] using gauges g, paths⟩

/-- R182: the restart keeps a sound state sound. -/
theorem SoundBut.restart {x : List TableId} (h : SoundBut none x s) (idle : ∀ n, (s.stand n).state.isPasting = false) :
    SoundBut none [] (restartPart s) := by
  have blocks := (restored_restartBlocks h.fits idle).sound
  rw [restartPart_eq]
  generalize restartBlocks s = u at blocks ⊢
  exact SoundBut.of_blocks (s := u) rfl rfl rfl rfl blocks

end

/-! ### The folders' remaining copies (R133, R187) -/

theorem State.foldersSound_iff (s : State) : s.foldersSound ↔ ∀ g c, (s.group g).monitor.held = some c → c ≤ 255 := by
  refine forall_congr' fun g => ?_
  cases (s.group g).monitor.held <;> simp

/-- R133: a group-table load keeps the remaining copies, or forgets them. -/
theorem movedFolderMonitor_held {a b : Bool} {m : Monitor Nat} {c : Nat} (h : (movedFolderMonitor a b m).held = some c) :
    m.held = some c := by
  unfold movedFolderMonitor at h
  split at h
  · cases h
  · split at h
    · cases h
    · exact h

theorem applyGroupLoad_held (s : State) (g k : GroupNo) (l : Load) (c : Nat)
    (h : ((applyGroupLoad g l s).group k).monitor.held = some c) : (s.group k).monitor.held = some c := by
  unfold applyGroupLoad at h
  simp only [markMoved_group, State.onGroup_group] at h
  split at h
  · next e =>
    subst e
    simp only at h
    split at h
    · exact h
    · exact movedFolderMonitor_held h
  · exact h

theorem State.foldersSound_congr {s t : State} (h : t.groups = s.groups) (k : s.foldersSound) : t.foldersSound := by
  intro g
  have : t.group g = s.group g := by simp only [State.group, h]
  rw [this]
  exact k g

theorem Change.foldersSound {s t : State} (h : Change s t) (k : s.foldersSound) : t.foldersSound := by
  cases h with
  | onGroup g f same =>
    rw [State.foldersSound_iff] at k ⊢
    intro a c e
    rw [State.onGroup_group] at e
    split at e
    · next w => exact (same.copies c e).elim (k g c) id
    · exact k a c e
  | groupLoad g =>
    rw [State.foldersSound_iff] at k ⊢
    intro a c e
    unfold releaseGroupLoad at e
    split at e
    · next l _ =>
      refine k a c (applyGroupLoad_held s g a l c ?_)
      simp only [State.takeEvent_group, State.onGroup_group] at e
      split at e
      · next w => subst w; exact e
      · exact e
    · exact k a c e
  | standLoad n =>
    refine State.foldersSound_congr ?_ k
    unfold releaseStandLoad
    split
    · simp [applyStandLoad]
    · rfl
  | gaugeLoad g =>
    refine State.foldersSound_congr ?_ k
    unfold releaseGaugeLoad
    split
    · simp [applyGaugeLoad]
    · rfl
  | pathLoad n =>
    refine State.foldersSound_congr ?_ k
    unfold releasePathLoad
    split
    · simp [applyPathLoad]
    · rfl
  | _ => exact k

theorem Changes.foldersSound {s t : State} (h : Changes s t) (k : s.foldersSound) : t.foldersSound := by
  induction h with
  | refl => exact k
  | tail _ step ih => exact step.foldersSound ih

theorem Operation.foldersSound {accepting : Bool} {s t : State} (h : Operation accepting s t) (k : s.foldersSound) : t.foldersSound := by
  have changed {u : State} (c : Changes s u) : u.foldersSound := c.foldersSound k
  cases h with
  | outside _ h _ => exact State.foldersSound_congr h.groups k
  | perform w => exact changed (.perform w s)
  | lose o => exact changed (.loseAt s o)
  | event => exact k
  | responder => exact k
  | counter o => exact changed ((Changes.none s).advanceCounter o)
  | newFrame g => exact changed ((Changes.none s).onGroup g _)
  | hold g held => exact changed ((Changes.none s).onGroup g _)
  | order h => exact changed h.changes
  | load h =>
    cases h with
    | part l => exact k
    | stand n l => exact State.foldersSound_congr (by simp [applyStandLoad]) k
    | standHeld n l => exact k
    | path n l => exact k
    | pathHeld n l => exact k
    | group g l =>
      rw [State.foldersSound_iff] at k ⊢
      exact fun a c e => k a c (applyGroupLoad_held s g a l c e)
    | groupHeld g l =>
      rw [State.foldersSound_iff] at k ⊢
      intro a c e
      rw [State.onGroup_group] at e
      split at e
      · next w => subst w; exact k _ c e
      · exact k a c e
    | gauge g l => exact State.foldersSound_congr (by simp [applyGaugeLoad]) k
    | gaugeHeld g l => exact k
  | settleStand n => exact changed ((Changes.none s).settleStand n)
  | settleGauge g => exact changed ((Changes.none s).settleGauge g)
  | settleGroup g => exact changed ((Changes.none s).settleGroup g)
  | settlePath n => exact changed ((Changes.none s).settlePath n)
  | restart h =>
    have blocks := changed (.restartBlocks s)
    rw [restartPart_eq]
    generalize restartBlocks s = u at blocks ⊢
    exact State.foldersSound_congr (s := u) rfl blocks

/-! ### Every operation, and the power-on state -/

theorem Operation.sound {accepting : Bool} {s t : State} (h : Operation accepting s t) (k : s.Sound) : t.Sound := by
  obtain ⟨sound, tables, folders⟩ := (s.sound_iff).1 k
  refine (t.sound_iff).2 ⟨?_, kept_tablesSound.operation h tables, h.foldersSound folders⟩
  have wide (id : TableId) : SoundBut none [id] s := sound.mono (by simp)
  cases h with
  | outside _ h _ => exact sound.of_blocks h.stands h.groups h.gauges h.paths
  | perform w => exact sound.perform tables folders w
  | lose o => exact sound.loseAt o
  | event => exact sound.event ..
  | responder f => exact sound.onResponder f
  | counter o =>
    unfold advanceCounter
    cases o with
    | status => exact sound
    | stand n => exact sound.onStand_within n _ fun ⟨records, marks, schedule, command⟩ => ⟨records, marks, schedule, command⟩
    | gauge g => exact sound.onGauge_alike g _ ⟨rfl, rfl, id, id⟩
    | folder g => exact sound.onGroup_alike g _ ⟨rfl, rfl, rfl, id, id⟩
    | hold c => exact sound
  | newFrame g => exact sound.onGroup_alike g _ ⟨rfl, rfl, rfl, id, id⟩
  | hold g held => exact sound.onGroup_alike g _ ⟨rfl, rfl, rfl, id, id⟩
  | order h => exact sound.order h
  | load h => exact sound.load h
  | settleStand n => exact (wide (.stand n)).settleStand
  | settleGauge g => exact (wide (.gauge g)).settleGauge
  | settleGroup g => exact (wide (.group g)).settleGroup
  | settlePath n => exact (wide (.path n)).settlePath
  | restart h => exact sound.restart h

/-- R7, R94, R112: the power-on state is sound. -/
theorem powerOn_sound (straps : BitVec 4) : (State.powerOn straps).Sound := by
  refine ((State.powerOn straps).sound_iff).2 ⟨State.Restored.sound ⟨fun n => ?_, fun g => ?_, fun g => ?_, fun n => ?_⟩,
    powerOn_tablesSound straps, fun g => ?_⟩
  · rw [State.powerOn_stand]
    exact ⟨Stand.fits_of_still ⟨rfl, by decide, by decide, rfl, rfl, rfl⟩ rfl (by decide) nofun nofun nofun nofun, rfl, rfl⟩
  · rw [State.powerOn_group]
    exact ⟨rfl, rfl, rfl, rfl⟩
  · rw [State.powerOn_gauge]
    exact ⟨rfl, nofun, rfl⟩
  · rw [State.powerOn_path]
    rfl
  · rw [State.powerOn_group]
    rfl

/-- What every step keeps of a sound state. -/
theorem kept_sound : Kept State.Sound where
  blocks a b c d e h := by
    obtain ⟨sound, tables, folders⟩ := (State.sound_iff _).1 h
    exact (State.sound_iff _).2 ⟨sound.of_blocks a b c d, kept_tablesSound.blocks a b c d e tables, State.foldersSound_congr b folders⟩
  operation := Operation.sound
  powerOn := powerOn_sound

end Sys2Proof.Machine

namespace Sys2Proof.Proofs

open Sys2Proof.Machine

/-- Settles O58: every operation of every command keeps a sound state sound (`kept_sound`). -/
theorem everyStepKeepsSound : Obligations.EveryStepKeepsSound := fun _ _ sound run => kept_sound.step sound run

/-- Settles O59: the power-on values, block by block. -/
theorem resetIsSound : Obligations.ResetIsSound := by
  have all (straps : BitVec 4) : (State.powerOn straps).Sound ∧ (State.powerOn straps).placementSound ∧
      (State.powerOn straps).eventsSound :=
    ⟨kept_sound.powerOn straps, kept_placementSound.powerOn straps, kept_eventsSound.powerOn straps⟩
  obtain ⟨sound, placed, events⟩ := all Config.strapsAtReset
  exact ⟨sound, placed, events, all⟩

/-- Settles O60: each sentence read off the part of a sound state that it speaks of. -/
theorem soundStatesObeyTheSentences : Obligations.SoundStatesObeyTheSentences := by
  intro s sound
  obtain ⟨but, -, -⟩ := (s.sound_iff).1 sound
  have stand (n : StandNo) := but.stands n (by simp)
  have mayHold (a : StandState) : a ∈ [StandState.accelerating, .pasting .advance, .pasting .brush] ↔ a.mayHold = true := by
    cases a with
    | pasting p => cases p <;> simp [StandState.mayHold]
    | _ => simp [StandState.mayHold]
  refine ⟨fun n held => ⟨?_, fun g e m own => ?_⟩, fun g n held => ?_, fun g n held => ?_, fun g h a ha b hb same => ?_, fun n => ?_,
    fun n => ⟨(stand n).fits.command.2.2.2.1, fun calm => ?_⟩, fun n k knife => ?_⟩
  · rw [(stand n).standing.holds, Stand.role_holds]
    exact ⟨fun h => h.2.1, fun h => ⟨(mayHold _).1 held, h, rfl⟩⟩
  · have := (stand n).clear ((mayHold _).1 held)
    rw [(s.hasEntry_iff_lists n).2 ⟨g, e, m, own⟩] at this
    cases this
  · obtain ⟨may, -, group⟩ := Stand.role_holds.1 (((stand n).standing.holds g).1 held)
    exact ⟨group, (mayHold _).2 may⟩
  · obtain ⟨e, m, own, lock⟩ := ((but.groups g).holder n).1 held
    obtain ⟨forced, -⟩ := (but.groups g).entries e m
    exact ⟨e, m, own, lock, Bool.eq_false_iff.2 fun f => by rw [forced f] at lock; cases lock⟩
  · obtain rfl := but.oneList g h b.stand ⟨a, ha, same⟩ ⟨b, hb, rfl⟩
    exact ⟨rfl, List.inj_on_of_nodup_map (but.groups g).once ha hb same⟩
  · constructor
    · intro ranging
      obtain ⟨g, e⟩ := Option.isSome_iff_exists.1 ((stand n).gauged ranging)
      exact ⟨g, e, ((stand n).standing.ranges g).2 (Stand.role_ranges.2 ⟨ranging, e⟩)⟩
    · rintro ⟨g, -, place⟩
      exact (Stand.role_ranges.1 (((stand n).standing.ranges g).1 place)).1
  · obtain ⟨-, -, still, -⟩ := (stand n).fits.command
    refine still ?_
    cases e : (s.stand n).state with
    | accelerating => simp [e] at calm
    | pasting p => cases p <;> simp [e] at calm
    | _ => rfl
  · obtain ⟨-, -, -, -, -, times⟩ := (stand n).fits.command
    rw [knife] at times
    by_contra other
    rw [if_neg other] at times
    cases times

end Sys2Proof.Proofs
end

section
/-!
PROOFS. How a frame's work is taken (R164): what no piece of it touches, which pieces and contents it uses up, and that nothing of it is
left where the plan leaves nothing for later.
-/

namespace Sys2Proof.Machine

/-! ### What no piece of a frame's work touches -/

/-- The port, the frame at OUT and the part table are as they were. -/
structure SamePort (s t : State) : Prop where
  port : t.port = s.port
  out : t.out = s.out
  table : t.responder.table = s.responder.table

theorem SamePort.trans {s t u : State} (h : SamePort s t) (k : SamePort t u) : SamePort s u :=
  ⟨k.port.trans h.port, k.out.trans h.out, k.table.trans h.table⟩

theorem Change.samePort {s t : State} (h : Change s t) : SamePort s t := by
  cases h with
  | onStand | onGroup | onGauge | onFrame | windows | flags => exact ⟨rfl, rfl, rfl⟩
  | event k a b d => exact ⟨rfl, rfl, s.takeEvent_table k a b d⟩
  | standLoad n =>
    unfold releaseStandLoad applyStandLoad State.standEvent
    split <;> constructor <;> simp
  | gaugeLoad g =>
    unfold releaseGaugeLoad applyGaugeLoad
    split <;> constructor <;> simp
  | groupLoad g =>
    unfold releaseGroupLoad applyGroupLoad
    split <;> constructor <;> simp
  | pathLoad n =>
    unfold releasePathLoad
    split
    · exact ⟨rfl, rfl, State.takeEvent_table ..⟩
    · exact ⟨rfl, rfl, rfl⟩

theorem Changes.samePort {s t : State} (h : Changes s t) : SamePort s t := by
  induction h with
  | refl => exact ⟨rfl, rfl, rfl⟩
  | tail _ step ih => exact ih.trans step.samePort

/-! ### The record of the frame's work -/

/-- R153: a field marked as moved is the only mark that a load leaves on the record. -/
theorem onward_markMoved (f : InputField) (b : Bool) (s : State) : s.frame.Onward (markMoved f b s).frame := by
  unfold markMoved
  split
  · exact ⟨fun _ h => h, fun _ h => h, fun _ h => h, fun _ h => .inl h, rfl, rfl⟩
  · exact .refl s.frame

theorem onward_applyStandLoad (s : State) (n : StandNo) (l : Load) : s.frame.Onward (applyStandLoad n l s).frame :=
  onward_markMoved (.stand n) _ (s.onStand n _)

theorem onward_applyGaugeLoad (s : State) (g : GaugeNo) (l : Load) : s.frame.Onward (applyGaugeLoad g l s).frame :=
  onward_markMoved (.gauge g) _ (s.onGauge g _)

theorem onward_applyGroupLoad (s : State) (g : GroupNo) (l : Load) : s.frame.Onward (applyGroupLoad g l s).frame :=
  onward_markMoved (.folder g) _ (s.onGroup g _)

theorem Change.onward {s t : State} (h : Change s t) : s.frame.Onward t.frame := by
  cases h with
  | onStand | onGroup | onGauge | windows | flags | event => exact .refl s.frame
  | onFrame f h => exact h
  | standLoad n =>
    unfold releaseStandLoad
    split
    · exact onward_applyStandLoad s n _
    · exact .refl s.frame
  | gaugeLoad g =>
    unfold releaseGaugeLoad
    split
    · exact onward_applyGaugeLoad s g _
    · exact .refl s.frame
  | groupLoad g =>
    unfold releaseGroupLoad
    split
    · exact onward_applyGroupLoad s g _
    · exact .refl s.frame
  | pathLoad n =>
    unfold releasePathLoad
    split <;> exact .refl s.frame

theorem Changes.onward {s t : State} (h : Changes s t) : s.frame.Onward t.frame := by
  induction h with
  | refl => exact .refl s.frame
  | tail _ step ih => exact ih.trans step.onward

/-- R164: what taking pieces of a frame's work keeps, and what it may only use up. -/
structure WorkKept (s t : State) : Prop extends SamePort s t where
  due : ∀ w ∈ t.frame.due, w ∈ s.frame.due
  handed : ∀ p ∈ t.frame.handed, p ∈ s.frame.handed
  fresh : ∀ x ∈ t.frame.fresh, x ∈ s.frame.fresh ∨ ∃ ws, (x, some ws) ∈ s.frame.handed

theorem WorkKept.refl (s : State) : WorkKept s s :=
  ⟨⟨rfl, rfl, rfl⟩, fun _ h => h, fun _ h => h, fun _ h => .inl h⟩

theorem WorkKept.trans {s t u : State} (h : WorkKept s t) (k : WorkKept t u) : WorkKept s u where
  toSamePort := h.toSamePort.trans k.toSamePort
  due w m := h.due w (k.due w m)
  handed p m := h.handed p (k.handed p m)
  fresh x m := (k.fresh x m).elim (h.fresh x) fun ⟨ws, m⟩ => .inr ⟨ws, h.handed _ m⟩

theorem Changes.workKept {s t : State} (h : Changes s t) : WorkKept s t where
  toSamePort := h.samePort
  due := h.onward.due
  handed := h.onward.handed
  fresh := h.onward.fresh

theorem WorkKept.foldl {α : Type} {f : State → α → State} (h : ∀ s a, WorkKept s (f s a)) (l : List α) (s : State) :
    WorkKept s (l.foldl f s) := by
  induction l generalizing s with
  | nil => exact .refl s
  | cons a l ih => exact (h s a).trans (ih _)

theorem workKept_dropDue (s : State) (w : Work) : WorkKept s (s.dropDue w) :=
  ⟨⟨rfl, rfl, rfl⟩, fun _ h => List.mem_of_mem_filter h, fun _ h => h, fun _ h => .inl h⟩

theorem workKept_takePiece (s : State) (w : Work) : WorkKept s (takePiece s w) := by
  by_cases due : w ∈ s.frame.due
  · rw [takePiece_due due]
    exact (workKept_dropDue s w).trans (Changes.perform w _).workKept
  · rw [takePiece_idle due]
    exact .refl s

theorem workKept_carryOut (s : State) (w : Work) : WorkKept s (carryOut s w) :=
  (WorkKept.foldl workKept_takePiece (prerequisites w) s).trans (workKept_takePiece _ w)

theorem workKept_carryOutAll (ws : List Work) (s : State) : WorkKept s (carryOutAll ws s) := .foldl workKept_carryOut ws s

/-! ### The pieces that are used up -/

/-- A piece that is taken is due no longer. -/
theorem takePiece_not_due (s : State) (w : Work) : w ∉ (takePiece s w).frame.due := by
  by_cases due : w ∈ s.frame.due
  · rw [takePiece_due due]
    exact fun m => by simpa using (Changes.perform w _).workKept.due w m
  · rwa [takePiece_idle due]

/-- Every piece that is named is due no longer. -/
theorem carryOutAll_not_due {w : Work} {ws : List Work} (named : w ∈ ws) (s : State) : w ∉ (carryOutAll ws s).frame.due := by
  induction ws generalizing s with
  | nil => simp at named
  | cons v ws ih =>
    by_cases same : w = v
    · subst same
      exact fun m => takePiece_not_due _ w ((workKept_carryOutAll ws (carryOut s w)).due w m)
    · exact ih ((List.mem_cons.1 named).resolve_left same) (carryOut s v)

theorem finishFrame_due (s : State) : (finishFrame s).frame.due = [] :=
  List.eq_nil_iff_forall_not_mem.2 fun w m => carryOutAll_not_due ((workKept_carryOutAll _ s).due w m) s m

/-- R161: a field that is judged is handed over no longer. -/
theorem perform_judge_handed (x : InputField) (s : State) : ∀ p ∈ (perform (.judge x) s).frame.handed, p.1 ≠ x := by
  have judged (b : Option (List Word)) : (judgeField x b (s.handedOver x)).frame.handed = (s.handedOver x).frame.handed := by
    have repeated := congrArg FrameWork.handed (repeatField_rest x (s.handedOver x)).1
    unfold judgeField
    split
    · split
      · rw [takeField_onFrame]
        exact congrArg (fun w : FrameWork => w.handed.filter (·.1 != x)) (acceptField_frame x _ _ _ s)
      · exact repeated
    · exact repeated
  have left (t : State) (h : t.frame.handed = (s.handedOver x).frame.handed) : ∀ p ∈ t.frame.handed, p.1 ≠ x := by
    intro p m
    rw [h] at m
    simpa using (List.mem_filter.1 m).2
  show ∀ p ∈ (judgeWork x s).frame.handed, p.1 ≠ x
  cases brought : s.frame.handed.find? (·.1 == x) with
  | none =>
    have unjudged := List.find?_eq_none.1 brought
    simp only [judgeWork, State.broughtFor, brought, Option.map_none]
    exact fun p m => by simpa using unjudged p m
  | some q =>
    obtain rfl : q.1 = x := by simpa using List.find?_some brought
    rw [judgeWork_brought brought]
    split
    · exact left _ ((congrArg FrameWork.handed (forgetField_rest _ _).1).trans (judged _))
    · exact left _ (judged _)

/-- R161: the judgement of every field that is handed over is due. -/
def State.JudgementsDue (s : State) : Prop := ∀ p ∈ s.frame.handed, .judge p.1 ∈ s.frame.due

theorem judgementsDue_takePiece {s : State} (h : s.JudgementsDue) (w : Work) : (takePiece s w).JudgementsDue := by
  by_cases due : w ∈ s.frame.due
  · rw [takePiece_due due]
    intro p m
    have changes := (Changes.perform w (s.dropDue w)).onward
    refine changes.judges p.1 (List.mem_filter.2 ⟨h p (changes.handed p m), ?_⟩)
    refine bne_iff_ne.2 fun same => ?_
    subst same
    exact perform_judge_handed p.1 _ p m rfl
  · rwa [takePiece_idle due]

theorem judgementsDue_takePieces {s : State} (h : s.JudgementsDue) (ws : List Work) : (ws.foldl takePiece s).JudgementsDue := by
  induction ws generalizing s with
  | nil => exact h
  | cons w ws ih => exact ih (judgementsDue_takePiece h w)

/-- R161: where the judgement of every field is among the pieces carried out, no field waits for its judgement. -/
theorem carryOutAll_handed {ws : List Work} {s : State} (h : s.JudgementsDue) (named : ∀ p ∈ s.frame.handed, .judge p.1 ∈ ws) :
    (carryOutAll ws s).frame.handed = [] := by
  induction ws generalizing s with
  | nil => exact List.eq_nil_iff_forall_not_mem.2 fun p m => by simpa using named p m
  | cons w ws ih =>
    have due : (carryOut s w).JudgementsDue := judgementsDue_takePiece (judgementsDue_takePieces h _) w
    refine ih due fun p m => ?_
    rcases List.mem_cons.1 (named p ((workKept_carryOut s w).handed p m)) with same | later
    · subst same
      exact absurd (due p m) (takePiece_not_due s (.judge p.1))
    · exact later

/-! ### What a command hands over -/

theorem Loading.onward {s t : State} (h : Loading s t) : s.frame.Onward t.frame := by
  cases h with
  | part | standHeld | path | pathHeld | groupHeld | gaugeHeld => exact .refl s.frame
  | stand n l => exact onward_applyStandLoad s n l
  | group g l => exact onward_applyGroupLoad s g l
  | gauge g l => exact onward_applyGaugeLoad s g l

/-- R147: nothing but an acceptance hands over a field. -/
theorem Operation.handed {s t : State} (h : Operation false s t) : ∀ p ∈ t.frame.handed, p ∈ s.frame.handed := by
  cases h with
  | outside _ _ handed => exact fun p m => handed rfl ▸ m
  | perform w => exact (Changes.perform w s).onward.handed
  | lose o => exact (Changes.loseAt s o).onward.handed
  | event | responder | newFrame | hold => exact fun _ m => m
  | counter o => exact ((Changes.none s).advanceCounter o).onward.handed
  | order h => exact h.changes.onward.handed
  | load h => exact h.onward.handed
  | settleStand n => exact ((Changes.none s).settleStand n).onward.handed
  | settleGauge g => exact ((Changes.none s).settleGauge g).onward.handed
  | settleGroup g => exact ((Changes.none s).settleGroup g).onward.handed
  | settlePath n => exact ((Changes.none s).settlePath n).onward.handed
  | restart h =>
    have blocks := (Changes.restartBlocks s).onward.handed
    rw [restartPart_eq]
    generalize restartBlocks s = u at blocks
    exact blocks

theorem Operations.handed {s t : State} (h : Operations false s t) : ∀ p ∈ t.frame.handed, p ∈ s.frame.handed := by
  induction h with
  | refl => exact fun _ m => m
  | tail _ step ih => exact fun p m => ih p (step.handed p m)

end Sys2Proof.Machine
end

section
/-!
PROOFS. What an accepted frame hands over and makes due (R147 step 8, R164), the pieces that do nothing, and the commands that come after
the whole work of the frame before them.
-/

namespace Sys2Proof.Machine

/-! ### The input fields of the map (R151) -/

/-- R151: the input field is in the map. -/
def State.mapped (s : State) : InputField → Bool
  | .stand n => (s.stand n).loaded
  | .gauge g => (s.gauge g).loaded
  | .folder g => (s.group g).loaded

/-- R151: where the input field lies. -/
def State.placed (s : State) : InputField → Placed InputField
  | .stand n => ⟨.stand n, sampleBase (s.stand n).table, 8⟩
  | .gauge g => ⟨.gauge g, gaugeSampleBase (s.gauge g).table, 3⟩
  | .folder g => ⟨.folder g, folderSampleBase (s.group g).table, 2⟩

theorem State.placed_field (s : State) (x : InputField) : (s.placed x).field = x := by cases x <;> rfl

theorem State.mem_inputFields_iff (s : State) (p : Placed InputField) :
    p ∈ s.inputFields ↔ s.mapped p.field = true ∧ p = s.placed p.field := by
  rw [s.mem_inputFields]
  obtain ⟨x, b, l⟩ := p
  cases x <;> simp [State.mapped, State.placed]

/-- What a frame brings for a field. -/
def broughtBy (slots : List Word) (p : Placed InputField) : Option (List Word) :=
  if p.base + p.len ≤ slots.length then some ((slots.drop p.base).take p.len) else none

theorem broughtBy_some {slots ws : List Word} {p : Placed InputField} (h : broughtBy slots p = some ws) :
    p.base + p.len ≤ slots.length := by
  by_contra out
  rw [broughtBy, if_neg out] at h
  exact Option.some_ne_none _ h.symm

theorem State.mem_handed (s : State) (slots : List Word) (x : InputField) (b : Option (List Word)) :
    (x, b) ∈ s.handed slots ↔ s.mapped x = true ∧ b = broughtBy slots (s.placed x) := by
  rw [State.handed, List.mem_map]
  constructor
  · rintro ⟨p, m, e⟩
    obtain ⟨rfl, rfl⟩ := Prod.mk.inj e
    obtain ⟨map, place⟩ := (s.mem_inputFields_iff p).1 m
    exact ⟨map, by rw [← place]; simp [Placed.within, broughtBy]⟩
  · rintro ⟨map, rfl⟩
    exact ⟨s.placed x, (s.mem_inputFields_iff _).2 (by simp [s.placed_field, map]),
      Prod.ext (s.placed_field x) (by simp [Placed.within, broughtBy])⟩

theorem SameMap.mapped {s t : State} (h : SameMap s t) (x : InputField) : t.mapped x = s.mapped x := by
  cases x with
  | stand n => exact (h.stand n).2
  | gauge g => exact (h.gauge g).2
  | folder g => exact (h.group g).2.1

theorem SameMap.placed {s t : State} (h : SameMap s t) (x : InputField) : t.placed x = s.placed x := by
  cases x with
  | stand n => simp only [State.placed, (h.stand n).1]
  | gauge g => simp only [State.placed, (h.gauge g).1]
  | folder g => simp only [State.placed, (h.group g).1]

theorem SameMap.hasEntry {s t : State} (h : SameMap s t) (n : StandNo) : t.hasEntry n = s.hasEntry n := by
  rw [Bool.eq_iff_iff, t.hasEntry_iff, s.hasEntry_iff]
  simp only [fun g => (h.group g).2.2]

/-! ### The work that is due (R164) -/

/-- R164: the condition under which an accepted frame gives a block a piece of work. -/
def State.givesWork (s : State) : Work → Bool
  | .judge x | .stale x => s.mapped x
  | .recover n | .holds n | .reject n | .clear n => s.hasEntry n
  | .sample _ | .deadline _ | .grant _ => true
  | .result g | .start g | .timeout g => (s.gauge g).loaded

theorem State.mem_frameDue (s : State) (w : Work) : w ∈ s.frameDue ↔ s.givesWork w = true := by
  have field (x : InputField) : (∃ p ∈ s.inputFields, x = p.field) ↔ s.mapped x = true := by
    constructor
    · rintro ⟨p, m, rfl⟩
      exact ((s.mem_inputFields_iff p).1 m).1
    · exact fun map => ⟨s.placed x, (s.mem_inputFields_iff _).2 (by simp [s.placed_field, map]), (s.placed_field x).symm⟩
  cases w <;> simp [State.frameDue, State.givesWork, field]

theorem SameMap.givesWork {s t : State} (h : SameMap s t) (w : Work) : t.givesWork w = s.givesWork w := by
  cases w with
  | judge x | stale x => exact h.mapped x
  | recover n | holds n | reject n | clear n => exact h.hasEntry n
  | sample | deadline | grant => rfl
  | result g | start g | timeout g => exact (h.gauge g).2

section

variable (f : Frame) (s : State)

/-- R147 step 8: an accepted frame hands over each input field of the map as the frame brought it. -/
theorem mem_acceptFrame_handed (x : InputField) (b : Option (List Word)) :
    (x, b) ∈ (acceptFrame f s).frame.handed ↔ s.mapped x = true ∧ b = broughtBy f.slots (s.placed x) := by
  obtain ⟨t, same, record⟩ := acceptFrame_frame f s
  rw [record]
  show (x, b) ∈ t.handed f.slots ↔ _
  rw [t.mem_handed, same.mapped, same.placed]

/-- R164: an accepted frame gives each block its work. -/
theorem mem_acceptFrame_due (w : Work) : w ∈ (acceptFrame f s).frame.due ↔ s.givesWork w = true := by
  obtain ⟨t, same, record⟩ := acceptFrame_frame f s
  rw [record]
  show w ∈ t.frameDue ↔ _
  rw [t.mem_frameDue, same.givesWork]

theorem acceptFrame_judgementsDue : (acceptFrame f s).JudgementsDue := fun p m =>
  (mem_acceptFrame_due f s _).2 ((mem_acceptFrame_handed f s p.1 p.2).1 m).1

end

/-! ### The pieces that do nothing -/

/-- R8: a stand in OFFLINE, PARKED or FAULT does nothing with a sample or at a deadline. -/
theorem perform_stand_idle {s : State} {n : StandNo} (idle : (s.stand n).state ∈ [StandState.offline, .parked, .fault]) :
    perform (.sample n) s = s ∧ perform (.deadline n) s = s := by
  simp only [List.mem_cons, List.not_mem_nil, or_false] at idle
  have sample (v : StandSample) : handleSample n v s = s := by
    rcases idle with e | e | e <;> simp [handleSample, e]
  constructor
  · simp only [perform, sampleWork]
    split
    · split
      · exact sample _
      · rfl
    · rfl
  · rcases idle with e | e | e <;> simp [perform, deadlineWork, e]

/-! ### The commands that come after the whole work of a frame -/

/-- R147, R148, R164: a cycle frame, once what is left of the last frame's work is taken. -/
theorem exec_cycleFrame {s : State} (low : s.resetLow = false) (f : Frame) (plan : Plan) :
    exec (.cycleFrame f plan) s = .next (if (finishFrame s).accepts f then
        carryOutAll (planOrder plan (acceptFrame f (finishFrame s)).frame.due)
          ((acceptFrame f (finishFrame s)).onFrame fun w => { w with grantFirst := plan.grantFirst })
      else refuseFrame f (finishFrame s)) :=
  congrArg Host.Outcome.next (if_neg (by simp [low]))

/-- R165: an expiry of the running timer, once what is left of the last frame's work is taken. -/
theorem exec_ringLoss {s : State} (low : s.resetLow = false) (running : s.port.timer.isSome) (order : List LossOwner) :
    exec (.ringLossTimerExpiry order) s = .next (
      if ((finishFrame s).onPort fun p => { p with timer := none }).port.ring = .up then
        declareLoss order ((finishFrame s).onPort fun p => { p with timer := none })
      else (finishFrame s).onPort fun p => { p with timer := none }) :=
  congrArg Host.Outcome.next (if_neg (by simpa [low] using Option.isSome_iff_ne_none.1 running))

/-- R97, R101: every judgement that is due has its place in a plan's order. -/
theorem judge_mem_planOrder (plan : Plan) {due : List Work} {x : InputField} (m : .judge x ∈ due) : .judge x ∈ planOrder plan due :=
  List.mem_append_right _ (List.mem_filter.2 ⟨m, rfl⟩)

/-- R161: no field waits for its judgement once a plan is carried out. -/
theorem cycleFrame_handed (f : Frame) (plan : Plan) (s : State) :
    (carryOutAll (planOrder plan (acceptFrame f s).frame.due)
      ((acceptFrame f s).onFrame fun w => { w with grantFirst := plan.grantFirst })).frame.handed = [] := by
  have due := acceptFrame_judgementsDue f s
  generalize acceptFrame f s = t at due ⊢
  exact carryOutAll_handed (s := t.onFrame _) due fun p m => judge_mem_planOrder plan (due p m)

/-- R148: a refused frame is refused on no field's account. -/
theorem refuseFrame_frame (f : Frame) (s : State) : (refuseFrame f s).frame = s.frame := by
  unfold refuseFrame
  simp only
  split <;> rfl

/-- R161: between commands no field waits for its judgement. -/
theorem exec_handed {c : Instr} {s t : State} (idle : s.frame.handed = []) (run : exec c s = .next t) : t.frame.handed = [] := by
  have none {u : State} (less : ∀ p ∈ u.frame.handed, p ∈ s.frame.handed) : u.frame.handed = [] :=
    List.eq_nil_iff_forall_not_mem.2 fun p m => by simpa [idle] using less p m
  by_cases cycle : ∃ f plan, c = .cycleFrame f plan
  · obtain ⟨f, plan, rfl⟩ := cycle
    cases low : s.resetLow with
    | true =>
      obtain rfl := Host.Outcome.next.inj ((congrArg Host.Outcome.next (if_pos low)).symm.trans run)
      exact idle
    | false =>
      obtain rfl := Host.Outcome.next.inj ((exec_cycleFrame low f plan).symm.trans run)
      split
      · exact cycleFrame_handed f plan _
      · rw [refuseFrame_frame]
        exact none (workKept_carryOutAll _ s).handed
  by_cases assert : c = .resetAssert
  · subst assert
    obtain rfl := Host.Outcome.next.inj run
    exact idle
  by_cases release : ∃ x, c = .resetRelease x
  · obtain ⟨x, rfl⟩ := release
    obtain rfl := Host.Outcome.next.inj run
    rfl
  obtain ⟨u, done, chain⟩ := exec_operations (accepting := false) c s assert (fun x h => release ⟨x, h⟩)
    fun f plan h => absurd ⟨f, plan, h⟩ cycle
  obtain rfl := Host.Outcome.next.inj (done.symm.trans run)
  exact none chain.handed

theorem finishFrame_finishFrame (s : State) : finishFrame (finishFrame s) = finishFrame s :=
  finishFrame_idle (finishFrame_due s)

theorem finishFrame_sameInputs (s : State) : SameInputs s (finishFrame s) :=
  ((Operations.none (accepting := false) s).finishFrame).sameInputs

theorem exec_cycleFrame_finishFrame {s : State} (low : s.resetLow = false) (f : Frame) (plan : Plan) :
    exec (.cycleFrame f plan) s = exec (.cycleFrame f plan) (finishFrame s) := by
  rw [exec_cycleFrame low, exec_cycleFrame ((finishFrame_sameInputs s).resetLow.trans low), finishFrame_finishFrame]

theorem exec_ringLoss_finishFrame {s : State} (low : s.resetLow = false) (running : s.port.timer.isSome) (order : List LossOwner) :
    exec (.ringLossTimerExpiry order) s = exec (.ringLossTimerExpiry order) (finishFrame s) := by
  have port : (finishFrame s).port = s.port := (workKept_carryOutAll _ s).port
  rw [exec_ringLoss low running, exec_ringLoss ((finishFrame_sameInputs s).resetLow.trans low) (by rw [port]; exact running),
    finishFrame_finishFrame]

theorem exec_service_finishFrame {c : Instr} {f : Frame} {s : State} (frame : c.serviceFrame = some f) (hears : s.hears f)
    (room : replyRoom f ≠ 0) : exec c s = exec c (finishFrame s) := by
  obtain ⟨act, run, -⟩ := exec_serve frame
  have inputs := finishFrame_sameInputs s
  have hears' : (finishFrame s).hears f = s.hears f := by
    simp only [State.hears, inputs.resetLow, inputs.nodeAddress]
  simp only [run, serve, hears', finishFrame_finishFrame]
  simp [hears, room]

end Sys2Proof.Machine

namespace Sys2Proof.Proofs

open Sys2Proof.Machine

/-- Settles O31: the work an acceptance makes due by the map, its order by the plan, and what the pieces taken use up. -/
theorem frameWorkTaken : Obligations.FrameWorkTaken := by
  refine ⟨fun f s => ?_, fun s => ⟨fun n sample w m => ?_, fun g sample w m => ?_, fun stays n => ?_, fun n idle w m => ?_⟩,
    fun f plan s low idle accepts => ?_, fun c s t idle run => exec_handed idle run,
    fun s low => ⟨finishFrame_due s, fun c f frame hears room => exec_service_finishFrame frame hears room,
      exec_cycleFrame_finishFrame low, fun order running => exec_ringLoss_finishFrame low running order⟩⟩
  · obtain ⟨t, -, record⟩ := acceptFrame_frame f s
    refine ⟨by rw [record], by rw [record], by rw [record]; exact beq_iff_eq, fun x b => ?_, fun w => ?_⟩
    · rw [mem_acceptFrame_handed]
      cases x <;> exact Iff.rfl
    · rw [mem_acceptFrame_due]
      cases w with
      | judge x | stale x => cases x <;> rfl
      | recover n | holds n | reject n | clear n => exact s.hasEntry_iff n
      | sample | deadline | grant => exact iff_of_true rfl trivial
      | result | start | timeout => rfl
  · have none : s.accepted (.stand n) = false := by simpa [State.accepted] using sample
    fin_cases m <;> simp [perform, none]
  · have none : s.accepted (.gauge g) = false := by simpa [State.accepted] using sample
    fin_cases m <;> simp [perform, none]
  · simp [perform, stays]
  · obtain ⟨sample, deadline⟩ := perform_stand_idle idle
    fin_cases m
    · exact sample
    · exact deadline
  · intro start
    have kept := workKept_carryOutAll (planOrder plan (acceptFrame f s).frame.due) start
    refine ⟨_, by rw [exec_cycleFrame low, finishFrame_idle idle, if_pos accepts], kept.out, ?_, fun later => ?_, fun p m fresh => ?_⟩
    · refine congrArg (fun l => (plan.first ++ l).foldl carryOut start) (List.filter_congr fun w _ => ?_)
      cases w <;> simp [isJudge]
    · refine List.eq_nil_iff_forall_not_mem.2 fun w due => carryOutAll_not_due ?_ start due
      have was : w ∈ (acceptFrame f s).frame.due := kept.due w due
      exact List.mem_append_right _ (List.mem_filter.2 ⟨was, by simp [later]⟩)
    · obtain ⟨map, place⟩ := (s.mem_inputFields_iff p).1 m
      rcases kept.fresh _ fresh with old | ⟨ws, brought⟩
      · obtain ⟨t, -, record⟩ := acceptFrame_frame f s
        rw [show start.frame.fresh = (acceptFrame f s).frame.fresh from rfl, record] at old
        exact absurd old (List.not_mem_nil)
      · have given := ((mem_acceptFrame_handed f s _ _).1 brought).2
        rw [← place] at given
        exact broughtBy_some given.symm

end Sys2Proof.Proofs
end

section
/-!
PROOFS. What the acceptance of a cycle frame leaves of the port and the responder before any block's work (R147 steps 1 to 6, R156,
R167), and what the frame's work leaves of the port.
-/

namespace Sys2Proof.Machine

/-! ### The steps of an acceptance that touch no unit -/

/-- The stands, groups, gauges, path tables, hold windows and the part table are as they were. -/
structure SameUnits (s t : State) : Prop where
  stands : t.stands = s.stands
  groups : t.groups = s.groups
  gauges : t.gauges = s.gauges
  paths : t.paths = s.paths
  windows : t.windows = s.windows
  table : t.responder.table = s.responder.table

theorem SameUnits.trans {s t u : State} (h : SameUnits s t) (k : SameUnits t u) : SameUnits s u :=
  ⟨k.stands.trans h.stands, k.groups.trans h.groups, k.gauges.trans h.gauges, k.paths.trans h.paths, k.windows.trans h.windows,
    k.table.trans h.table⟩

theorem SameUnits.stand {s t : State} (h : SameUnits s t) (n : StandNo) : t.stand n = s.stand n := by
  rw [State.stand, h.stands]; rfl

theorem SameUnits.group {s t : State} (h : SameUnits s t) (g : GroupNo) : t.group g = s.group g := by
  rw [State.group, h.groups]; rfl

theorem SameUnits.gauge {s t : State} (h : SameUnits s t) (g : GaugeNo) : t.gauge g = s.gauge g := by
  rw [State.gauge, h.gauges]; rfl

theorem SameUnits.path {s t : State} (h : SameUnits s t) (n : StandNo) : t.path n = s.path n := by
  rw [State.path, h.paths]; rfl

theorem SameUnits.commandFields {s t : State} (h : SameUnits s t) : t.commandFields = s.commandFields := by
  simp only [State.commandFields, h.stand, h.gauge, h.group, h.path]

theorem SameUnits.allWithin {s t : State} (h : SameUnits s t) (count : Nat) : t.allWithin count = s.allWithin count := by
  simp only [State.allWithin, h.commandFields, State.inputFields, h.stand, h.gauge, h.group, h.table]

/-- R167: the return of a LOST ring takes RING_BACK and raises the RING flag. -/
theorem returnRing_responder (s : State) :
    (returnRing s).responder =
      if s.port.ring = .lost then
        { (s.takeEvent .ringBack none none none).responder with
          ringFlag := (s.takeEvent .ringBack none none none).responder.ringFlag || maskBit s.responder.table 5 }
      else s.responder := by
  have table : ((s.onPort fun p => { p with ring := .up }).takeEvent .ringBack none none none).responder.table = s.responder.table :=
    State.takeEvent_table ..
  unfold returnRing State.raiseRing
  by_cases lost : s.port.ring = .lost
  · rw [if_pos lost, if_pos lost, table]
    cases maskBit s.responder.table 5 with
    | true =>
      rw [if_pos rfl, Bool.or_true]
      rfl
    | false =>
      rw [if_neg Bool.false_ne_true, Bool.or_false]
      rfl
  · rw [if_neg lost, if_neg lost]

theorem sameUnits_returnRing (s : State) : SameUnits s (returnRing s) := by
  have table : (returnRing s).responder.table = s.responder.table := by
    rw [returnRing_responder]
    split
    · exact State.takeEvent_table ..
    · rfl
  unfold returnRing State.raiseRing at *
  split
  · split
    · exact ⟨rfl, rfl, rfl, rfl, rfl, State.takeEvent_table ..⟩
    · exact ⟨rfl, rfl, rfl, rfl, rfl, State.takeEvent_table ..⟩
  · exact ⟨rfl, rfl, rfl, rfl, rfl, rfl⟩

theorem returnRing_port (s : State) : (returnRing s).port = { s.port with ring := .up } := by
  unfold returnRing State.raiseRing
  by_cases lost : s.port.ring = .lost
  · simp only [lost, if_true]
    split <;> rfl
  · have up : s.port.ring = .up := by cases e : s.port.ring <;> simp_all
    simp only [lost, if_false, ← up]

theorem sameUnits_testShort (count : Nat) (s : State) : SameUnits s (testShort count s) := by
  unfold testShort
  split
  · exact ⟨rfl, rfl, rfl, rfl, rfl, rfl⟩
  · split
    · exact ⟨rfl, rfl, rfl, rfl, rfl, rfl⟩
    · exact ⟨rfl, rfl, rfl, rfl, rfl, State.takeEvent_table ..⟩

theorem testShort_port (count : Nat) (s : State) :
    (testShort count s).port = { s.port with shortFrame := !s.allWithin count } := by
  unfold testShort
  cases within : s.allWithin count with
  | true => simp
  | false =>
    cases short : s.port.shortFrame with
    | true =>
      show s.port = { s.port with shortFrame := true }
      rw [← short]
    | false => rfl

theorem testShort_responder (count : Nat) (s : State) :
    (testShort count s).responder =
      if s.allWithin count = false ∧ s.port.shortFrame = false then (s.takeEvent .fieldRange none none none).responder
      else s.responder := by
  unfold testShort
  cases within : s.allWithin count with
  | true => simp
  | false =>
    cases short : s.port.shortFrame with
    | true => simp
    | false => simp; rfl

section

variable (f : Frame) (s : State)

/-- R147 steps 1 to 4: the state before the short-frame test. -/
def headed : State := (returnRing (takeHeader f s)).onPort fun p => { p with timeBack := false }

theorem announced_eq : announced f s = testShort (slotCount f) (headed f s) := rfl

theorem sameUnits_headed : SameUnits s (headed f s) :=
  .trans (t := takeHeader f s) ⟨rfl, rfl, rfl, rfl, rfl, rfl⟩ <|
    (sameUnits_returnRing (takeHeader f s)).trans ⟨rfl, rfl, rfl, rfl, rfl, rfl⟩

theorem sameUnits_announced : SameUnits s (announced f s) := (sameUnits_headed f s).trans (sameUnits_testShort _ _)

theorem headed_port :
    (headed f s).port =
      { s.port with
        last := some ⟨frameTime f, frameCycle f, framePeriod f⟩, ring := .up, timeBack := false
        effectiveLead := max (commandLead s.responder.table) (2 * framePeriod f)
        timer := some (ringLossCount s.responder.table * framePeriod f) } := by
  show ({ (returnRing (takeHeader f s)).port with timeBack := false } : Port) = _
  rw [returnRing_port]
  rfl

/-- R147 steps 1 to 6: what the acceptance makes of the port. -/
theorem announced_port :
    (announced f s).port =
      { s.port with
        last := some ⟨frameTime f, frameCycle f, framePeriod f⟩, ring := .up, timeBack := false
        effectiveLead := max (commandLead s.responder.table) (2 * framePeriod f)
        timer := some (ringLossCount s.responder.table * framePeriod f)
        shortFrame := !s.allWithin (slotCount f) } := by
  rw [announced_eq, testShort_port, (sameUnits_headed f s).allWithin, headed_port]

end

/-! ### The counters and the orders of a frame -/

/-- The port, the responder, the path tables, the hold windows and the frame at OUT are as they were. -/
structure UnitsOnly (s t : State) : Prop where
  port : t.port = s.port
  responder : t.responder = s.responder
  paths : t.paths = s.paths
  windows : t.windows = s.windows

theorem UnitsOnly.foldl {α : Type} {f : State → α → State} (h : ∀ s a, UnitsOnly s (f s a)) (l : List α) (s : State) :
    UnitsOnly s (l.foldl f s) := by
  induction l generalizing s with
  | nil => exact ⟨rfl, rfl, rfl, rfl⟩
  | cons a l ih =>
    obtain ⟨port, responder, paths, windows⟩ := h s a
    obtain ⟨port', responder', paths', windows'⟩ := ih (f s a)
    exact ⟨port'.trans port, responder'.trans responder, paths'.trans paths, windows'.trans windows⟩

theorem unitsOnly_advanceCounter (o : OutputField) (s : State) : UnitsOnly s (advanceCounter o s) := by
  cases o <;> exact ⟨rfl, rfl, rfl, rfl⟩

section

variable (f : Frame) (s : State)

/-- R173: the status field takes its applied base before the outputs are written. -/
def based : State := (announced f s).onPort fun p => { p with statusBase := statusBaseEntry (announced f s).responder.table }

theorem outputState_eq : outputState f s =
    ((based f s).writtenFields (slotCount f)).foldl (fun u p => advanceCounter p.field u) (based f s) := rfl

theorem unitsOnly_outputState : UnitsOnly (based f s) (outputState f s) :=
  .foldl (fun u (p : Placed OutputField) => unitsOnly_advanceCounter p.field u) _ _

theorem unitsOnly_workState : UnitsOnly (outputState f s) (workState f s) :=
  .foldl (fun u g => (⟨rfl, rfl, rfl, rfl⟩ : UnitsOnly u (u.onGroup g _))) _ _

theorem sameUnits_based : SameUnits s (based f s) :=
  (sameUnits_announced f s).trans ⟨rfl, rfl, rfl, rfl, rfl, rfl⟩

theorem acceptFrame_blocks :
    (acceptFrame f s).port = (workState f s).port ∧ (acceptFrame f s).responder = (workState f s).responder ∧
      (acceptFrame f s).stands = (workState f s).stands ∧ (acceptFrame f s).gauges = (workState f s).gauges ∧
      (acceptFrame f s).groups = (workState f s).groups := by
  rw [acceptFrame_eq]
  dsimp only
  exact ⟨rfl, rfl, rfl, rfl, rfl⟩

theorem acceptFrame_responder : (acceptFrame f s).responder = (announced f s).responder := by
  obtain ⟨-, responder, -⟩ := acceptFrame_blocks f s
  exact responder.trans <| (unitsOnly_workState f s).responder.trans (unitsOnly_outputState f s).responder

/-- R147, R155, R165, R167, R173: what the acceptance leaves of the port. -/
theorem acceptFrame_port :
    (acceptFrame f s).port =
      { last := some ⟨frameTime f, frameCycle f, framePeriod f⟩, ring := .up, timeBack := false
        effectiveLead := max (commandLead s.responder.table) (2 * framePeriod f)
        timer := some (ringLossCount s.responder.table * framePeriod f)
        shortFrame := !s.allWithin (slotCount f), statusBase := statusBaseEntry s.responder.table } := by
  have port : (acceptFrame f s).port = (based f s).port := by
    obtain ⟨port, -⟩ := acceptFrame_blocks f s
    exact port.trans <| (unitsOnly_workState f s).port.trans (unitsOnly_outputState f s).port
  rw [port]
  show ({ (announced f s).port with statusBase := statusBaseEntry (announced f s).responder.table } : Port) = _
  rw [announced_port, (sameUnits_announced f s).table]

/-! ### The events of an acceptance -/

/-- R150: an event of the acceptance itself, with the cycle number and the ring time of its frame. -/
def frameEvent (k : EventKind) (f : Frame) : Event :=
  { kind := k, stand := none, unit := none, cycle := frameCycle f, time := frameTime f, detail := none }

/-- R147 steps 4 to 6: RING_BACK, then FIELD_RANGE. -/
theorem announced_events (room : s.responder.events.length ≤ 30) :
    (announced f s).responder.events =
      s.responder.events ++ (if s.port.ring = .lost then [frameEvent .ringBack f] else []) ++
        (if s.allWithin (slotCount f) = false ∧ s.port.shortFrame = false then [frameEvent .fieldRange f] else []) := by
  have back : (headed f s).responder.events =
      s.responder.events ++ if s.port.ring = .lost then [frameEvent .ringBack f] else [] := by
    show (returnRing (takeHeader f s)).responder.events = _
    rw [returnRing_responder]
    show (if s.port.ring = .lost then _ else _ : Responder).events = _
    split
    · show ((takeHeader f s).takeEvent .ringBack none none none).responder.events = _
      rw [State.takeEvent_events, if_pos (show (takeHeader f s).responder.events.length < 32 from Nat.lt_of_le_of_lt room (by decide))]
      rfl
    · exact (List.append_nil _).symm
  have length : (headed f s).responder.events.length < 32 := by
    rw [back, List.length_append]
    split <;> simp <;> omega
  rw [announced_eq, testShort_responder, (sameUnits_headed f s).allWithin, headed_port, ← back]
  split
  · rw [State.takeEvent_events, if_pos length]
    simp only [State.cycleNow, State.now, headed_port]
    rfl
  · exact (List.append_nil _).symm

/-- R167: the RING flag rises with the return of the ring, where the mask admits it. -/
theorem announced_ringFlag :
    (announced f s).responder.ringFlag =
      (s.responder.ringFlag || (decide (s.port.ring = .lost) && maskBit s.responder.table 5)) := by
  have event (k : EventKind) (u : State) : (u.takeEvent k none none none).responder.ringFlag = u.responder.ringFlag := by
    simp only [State.takeEvent, State.onResponder, Responder.append]
    split <;> rfl
  have back : (headed f s).responder.ringFlag =
      (s.responder.ringFlag || (decide (s.port.ring = .lost) && maskBit s.responder.table 5)) := by
    show (returnRing (takeHeader f s)).responder.ringFlag = _
    rw [returnRing_responder]
    show (if s.port.ring = .lost then _ else _ : Responder).ringFlag = _
    split
    · next lost =>
      simp only [lost, decide_true, Bool.true_and]
      exact congrArg (· || maskBit s.responder.table 5) (event .ringBack (takeHeader f s))
    · next up => simp only [up, decide_false, Bool.false_and, Bool.or_false]; rfl
  rw [announced_eq, testShort_responder, ← back]
  split
  · exact event ..
  · rfl

/-- R179: the acceptance keeps the event queue within its bound. -/
theorem acceptFrame_eventsSound (h : s.eventsSound) : (acceptFrame f s).eventsSound := by
  have chain := (Operations.none (accepting := true) s).acceptFrame f
  exact kept_eventsSound.operations chain h

end

/-! ### The short frame (R156) -/

/-- R139: the hold checkpoints of a path table are those in use that hold. -/
theorem mem_holdFields {t : PathEntries} {p : Placed OutputField} :
    p ∈ holdFields t ↔ ∃ c, c < checkpointCount t ∧ isHold t c = true ∧ p = ⟨.hold (holdSlot t c), holdSlot t c, 1⟩ := by
  rw [holdFields, List.mem_map]
  simp only [holdCheckpoints, List.mem_filter, List.mem_range, and_assoc, @eq_comm _ p]

/-- What is picked out of a range of numbers. -/
theorem mem_filterMap_finRange {k : Nat} {β : Type} (c : Fin k → Bool) (g : Fin k → β) (p : β) :
    p ∈ (List.finRange k).filterMap (fun a => if c a = true then some (g a) else none) ↔ ∃ a, c a = true ∧ p = g a := by
  rw [List.mem_filterMap]
  refine exists_congr fun a => (and_iff_right (List.mem_finRange a)).trans ?_
  cases c a <;> simp [eq_comm]

/-- R151: the output fields of the map but the status field. -/
theorem State.mem_commandFields (s : State) (p : Placed OutputField) :
    p ∈ s.commandFields ↔
      (∃ n, (s.stand n).loaded = true ∧ p = standField n (s.stand n).table) ∨
      (∃ g, (s.gauge g).loaded = true ∧ p = gaugeField g (s.gauge g).table) ∨
      (∃ g, (s.group g).loaded = true ∧ p = folderField g (s.group g).table) ∨
      ∃ n, p ∈ holdFields (s.path n).table := by
  rw [State.commandFields, List.mem_append, List.mem_append, List.mem_append, or_assoc, or_assoc]
  refine or_congr (mem_filterMap_finRange _ _ p) (or_congr (mem_filterMap_finRange _ _ p) (or_congr (mem_filterMap_finRange _ _ p) ?_))
  rw [List.mem_flatMap]
  exact exists_congr fun n => and_iff_right (List.mem_finRange n)

/-- R156: a frame within which every field of the map lies. -/
theorem State.allWithin_iff (s : State) (count : Nat) :
    s.allWithin count = true ↔
      statusBaseEntry s.responder.table + 20 ≤ count ∧
      (∀ n, (s.stand n).loaded = true → sampleBase (s.stand n).table + 8 ≤ count ∧ commandBase (s.stand n).table + 6 ≤ count) ∧
      (∀ g, (s.gauge g).loaded = true →
        gaugeSampleBase (s.gauge g).table + 3 ≤ count ∧ gaugeCommandBase (s.gauge g).table + 2 ≤ count) ∧
      (∀ g, (s.group g).loaded = true →
        folderSampleBase (s.group g).table + 2 ≤ count ∧ folderCommandBase (s.group g).table + 2 ≤ count) ∧
      ∀ n c, c < checkpointCount (s.path n).table → isHold (s.path n).table c = true → holdSlot (s.path n).table c + 1 ≤ count := by
  simp only [State.allWithin, Bool.and_eq_true, List.all_eq_true, Placed.within, decide_eq_true_eq]
  constructor
  · rintro ⟨⟨status, inputs⟩, commands⟩
    have input (x : InputField) (m : s.mapped x = true) : (s.placed x).base + (s.placed x).len ≤ count :=
      inputs _ ((s.mem_inputFields_iff _).2 (by simp [s.placed_field, m]))
    have command (p : Placed OutputField) (m) : p.base + p.len ≤ count := commands p ((s.mem_commandFields p).2 m)
    exact ⟨status, fun n m => ⟨input (.stand n) m, command _ (.inl ⟨n, m, rfl⟩)⟩,
      fun g m => ⟨input (.gauge g) m, command _ (.inr (.inl ⟨g, m, rfl⟩))⟩,
      fun g m => ⟨input (.folder g) m, command _ (.inr (.inr (.inl ⟨g, m, rfl⟩)))⟩,
      fun n c low hold => command _ (.inr (.inr (.inr ⟨n, mem_holdFields.2 ⟨c, low, hold, rfl⟩⟩)))⟩
  · rintro ⟨status, stand, gauge, folder, hold⟩
    refine ⟨⟨status, fun p m => ?_⟩, fun p m => ?_⟩
    · obtain ⟨map, place⟩ := (s.mem_inputFields_iff p).1 m
      rw [place]
      cases e : p.field with
      | stand n => exact (stand n (e ▸ map :)).1
      | gauge g => exact (gauge g (e ▸ map :)).1
      | folder g => exact (folder g (e ▸ map :)).1
    · rcases (s.mem_commandFields p).1 m with ⟨n, map, rfl⟩ | ⟨g, map, rfl⟩ | ⟨g, map, rfl⟩ | ⟨n, m⟩
      · exact (stand n map).2
      · exact (gauge g map).2
      · exact (folder g map).2
      · obtain ⟨c, low, holds, rfl⟩ := mem_holdFields.1 m
        exact hold n c low holds

/-! ### The slots of the frame at OUT -/

theorem State.length_statusRecord (s : State) : s.statusRecord.length = 20 := by
  rw [State.statusRecord, List.length_append, List.length_cons, List.length_map, List.length_finRange, List.length_replicate]

theorem State.length_writeStatus (s : State) (slots : List Word) : (s.writeStatus slots).length = slots.length := by
  unfold State.writeStatus
  split
  · next within => exact length_writeSlots (by rw [s.length_statusRecord]; exact within)
  · rfl

/-- R188: each output field carries as many slots as it has. -/
theorem State.length_content {s : State} {p : Placed OutputField} (t : BitVec 32) (m : p ∈ s.commandFields) :
    (s.content t p.field).length = p.len := by
  rcases (s.mem_commandFields p).1 m with ⟨n, -, rfl⟩ | ⟨g, -, rfl⟩ | ⟨g, -, rfl⟩ | ⟨n, m⟩
  · rfl
  · rfl
  · rfl
  · obtain ⟨c, -, -, rfl⟩ := mem_holdFields.1 m
    rfl

/-- Runs of slots written one after the other. -/
def writeRuns (runs : List (Nat × List Word)) (slots : List Word) : List Word :=
  runs.foldl (fun ws r => writeSlots ws r.1 r.2) slots

theorem length_writeRuns {runs : List (Nat × List Word)} {slots : List Word} (inside : ∀ r ∈ runs, r.1 + r.2.length ≤ slots.length) :
    (writeRuns runs slots).length = slots.length := by
  induction runs generalizing slots with
  | nil => rfl
  | cons r runs ih =>
    have first : (writeSlots slots r.1 r.2).length = slots.length := length_writeSlots (inside r (by simp))
    exact (ih fun q m => by rw [first]; exact inside q (by simp [m])).trans first

/-- A slot that holds a value, or that a run covers, holds the value after the runs are written, where every run that covers it brings
that value. -/
theorem slotAt_writeRuns {runs : List (Nat × List Word)} {slots : List Word} {i : Nat} {v : Word}
    (inside : ∀ r ∈ runs, r.1 + r.2.length ≤ slots.length)
    (agree : ∀ r ∈ runs, r.1 ≤ i → i < r.1 + r.2.length → slotAt r.2 (i - r.1) = v)
    (reached : slotAt slots i = v ∨ ∃ r ∈ runs, r.1 ≤ i ∧ i < r.1 + r.2.length) : slotAt (writeRuns runs slots) i = v := by
  induction runs generalizing slots with
  | nil => simpa [writeRuns] using reached
  | cons r runs ih =>
    have fits := inside r (by simp)
    have length : (writeSlots slots r.1 r.2).length = slots.length := length_writeSlots fits
    refine ih (slots := writeSlots slots r.1 r.2) (fun q m => by rw [length]; exact inside q (by simp [m]))
      (fun q m => agree q (by simp [m])) ?_
    by_cases covered : r.1 ≤ i ∧ i < r.1 + r.2.length
    · left
      obtain ⟨low, high⟩ := covered
      obtain ⟨j, rfl⟩ := Nat.exists_eq_add_of_le low
      rw [slotAt_writeSlots_inside (by omega) (by omega)]
      simpa using agree r (by simp) low high
    · rw [slotAt_writeSlots_outside fits (by omega)]
      refine reached.imp id fun ⟨q, m, c⟩ => ⟨q, (List.mem_cons.1 m).resolve_left ?_, c⟩
      rintro rfl
      exact covered c

/-- R154: the runs of slots that the written fields carry. -/
def State.outputRuns (s : State) (t : BitVec 32) (count : Nat) : List (Nat × List Word) :=
  (s.writtenFields count).map fun p => (p.base, s.content t p.field)

theorem State.writeOutputs_eq (s : State) (t : BitVec 32) (slots : List Word) :
    s.writeOutputs t slots = writeRuns (s.outputRuns t slots.length) (s.writeStatus slots) := by
  rw [State.outputRuns, writeRuns, List.foldl_map]
  rfl

theorem State.mem_outputRuns {s : State} {t : BitVec 32} {count : Nat} {r : Nat × List Word} :
    r ∈ s.outputRuns t count ↔ ∃ p ∈ s.commandFields, p.base + p.len ≤ count ∧ r = (p.base, s.content t p.field) := by
  simp [State.outputRuns, State.writtenFields, Placed.within, and_assoc, eq_comm]

theorem State.outputRuns_inside {s : State} {t : BitVec 32} {count : Nat} : ∀ r ∈ s.outputRuns t count, r.1 + r.2.length ≤ count := by
  intro r m
  obtain ⟨p, placed, within, rfl⟩ := State.mem_outputRuns.1 m
  exact (State.length_content t placed).symm ▸ within

/-- R147 step 7: the frame at OUT has the slots that the frame brought. -/
theorem State.length_writeOutputs (s : State) (t : BitVec 32) (slots : List Word) :
    (s.writeOutputs t slots).length = slots.length := by
  rw [s.writeOutputs_eq, length_writeRuns fun r m => ?_, s.length_writeStatus]
  rw [s.length_writeStatus]
  exact State.outputRuns_inside r m

/-- R154: the slots of the frame that leaves at OUT. -/
def acceptedSlots (f : Frame) (s : State) : List Word := (outputState f s).writeOutputs (frameTime f) f.slots

theorem length_acceptedSlots (f : Frame) (s : State) : (acceptedSlots f s).length = f.slots.length := State.length_writeOutputs ..

theorem acceptFrame_out (f : Frame) (s : State) :
    ∃ o, (acceptFrame f s).out = some o ∧ (o.head0 = f.head0 ∧ o.head1 = f.head1 ∧ o.head2 = f.head2) ∧
      o.slots = acceptedSlots f s := by
  rw [acceptFrame_eq, acceptedSlots]
  refine ⟨_, rfl, ⟨rfl, rfl, rfl⟩, ?_⟩
  dsimp only

end Sys2Proof.Machine

namespace Sys2Proof.Proofs

open Sys2Proof.Machine

/-- Settles O30: what the acceptance leaves of the port, and the frame's work does not touch the port. -/
theorem cycleFrameAccepted : Obligations.CycleFrameAccepted := by
  intro f plan s low least most late
  have port : (finishFrame s).port = s.port := (workKept_carryOutAll _ s).port
  have table : (finishFrame s).responder.table = s.responder.table := (workKept_carryOutAll _ s).table
  have inputs := finishFrame_sameInputs s
  have accepts : (finishFrame s).accepts f = true := by
    simp only [State.accepts, port, Bool.and_eq_true, decide_eq_true_eq]
    refine ⟨⟨least, most⟩, ?_⟩
    cases last : s.port.last with
    | none => rfl
    | some h => exact decide_eq_true (late h last)
  have accepted := (Operations.none (accepting := true) (finishFrame s)).acceptFrame f
  have kept := workKept_carryOutAll (planOrder plan (acceptFrame f (finishFrame s)).frame.due)
    ((acceptFrame f (finishFrame s)).onFrame fun w => { w with grantFirst := plan.grantFirst })
  have done := (Operations.none (accepting := true) ((acceptFrame f (finishFrame s)).onFrame fun w => { w with grantFirst := plan.grantFirst })).carryOutAll
    (planOrder plan (acceptFrame f (finishFrame s)).frame.due)
  refine ⟨_, by rw [exec_cycleFrame low, if_pos accepts], ?_⟩
  generalize carryOutAll _ _ = t at kept done
  have final : t.port = (acceptFrame f (finishFrame s)).port := kept.port
  rw [acceptFrame_port, table] at final
  rw [final]
  obtain ⟨o, out, ⟨head0, head1, head2⟩, slots⟩ := acceptFrame_out f (finishFrame s)
  refine ⟨rfl, rfl, rfl, rfl, rfl, rfl, ?_, ?_, o, by rw [kept.out, State.onFrame_out, out], head0, head1, head2,
    by rw [slots, length_acceptedSlots]⟩
  · rw [kept.table, ← table, State.onFrame_responder, acceptFrame_responder, (sameUnits_announced f _).table]
  · exact done.sameInputs.nodeAddress.trans (accepted.sameInputs.nodeAddress.trans inputs.nodeAddress)

end Sys2Proof.Proofs
end

section
/-!
PROOFS. The command freshness counters of an accepted frame (R92, R115, R134, R154), and what else its acceptance leaves of the units.
-/

namespace Sys2Proof.Machine

/-! ### How often a field is written -/

theorem within_iff {α : Type} (p : Placed α) (count : Nat) : p.within count = true ↔ p.base + p.len ≤ count := decide_eq_true_iff

/-- Of what is picked out of a list without repeats, one at most meets a test that a single choice can meet. -/
theorem countP_filterMap_pick {α β : Type} [DecidableEq α] {c : α → Bool} {g : α → β} {P : β → Bool} {a : α}
    (only : ∀ b, b ≠ a → P (g b) = false) (l : List α) (nodup : l.Nodup) :
    (l.filterMap fun b => if c b = true then some (g b) else none).countP P =
      if a ∈ l ∧ c a = true ∧ P (g a) = true then 1 else 0 := by
  induction l with
  | nil => simp
  | cons b l ih =>
    obtain ⟨new, nodup⟩ := List.nodup_cons.1 nodup
    have rest := ih nodup
    by_cases same : b = a
    · subst same
      rw [if_neg (fun h => new h.1)] at rest
      cases picked : c b <;> simp [picked, rest, List.countP_cons]
    · cases picked : c b <;> simp [picked, rest, only b same, Ne.symm same]

theorem countP_filterMap_none {α β : Type} {c : α → Bool} {g : α → β} {P : β → Bool} (never : ∀ b, P (g b) = false) (l : List α) :
    (l.filterMap fun b => if c b = true then some (g b) else none).countP P = 0 := by
  rw [List.countP_eq_zero]
  intro p m
  obtain ⟨b, -, e⟩ := List.mem_filterMap.1 m
  cases picked : c b <;> simp only [picked, if_true, Bool.false_eq_true, if_false, Option.some.injEq, reduceCtorEq] at e
  rw [← e, never b]
  exact Bool.false_ne_true

section

variable (s : State) (count : Nat)

/-- R154: how often a field is written into a frame of `count` slots. -/
def State.timesWritten (o : OutputField) : Nat := (s.writtenFields count).countP fun p => p.field == o

theorem State.timesWritten_eq (o : OutputField) :
    s.timesWritten count o = s.commandFields.countP fun p => p.within count && p.field == o := by
  rw [State.timesWritten, State.writtenFields, List.countP_filter]
  simp only [Bool.and_comm]

/-- R151: a hold slot is no counter's field. -/
theorem State.countP_holdFields {o : OutputField} (h : o.isHold = false) :
    ((List.finRange 8).flatMap fun n => holdFields (s.path n).table).countP (fun p => p.within count && p.field == o) = 0 := by
  rw [List.countP_eq_zero]
  intro p m
  obtain ⟨n, -, m⟩ := List.mem_flatMap.1 m
  obtain ⟨c, -, -, rfl⟩ := mem_holdFields.1 m
  rw [Bool.and_eq_true, not_and]
  rintro - e
  rw [← eq_of_beq e] at h
  exact absurd h (by simp [OutputField.isHold])

/-- R154: a stand's command field is written once where it is in the map and lies within the frame. -/
theorem State.timesWritten_stand (n : StandNo) :
    s.timesWritten count (.stand n) = if (s.stand n).loaded = true ∧ commandBase (s.stand n).table + 6 ≤ count then 1 else 0 := by
  rw [s.timesWritten_eq, State.commandFields, List.countP_append, List.countP_append, List.countP_append,
    s.countP_holdFields count (o := .stand n) rfl,
    countP_filterMap_pick (a := n) (fun b other => by simp [standField, other]) _ (List.nodup_finRange 8),
    countP_filterMap_none (by simp [gaugeField]), countP_filterMap_none (by simp [folderField])]
  simp only [Nat.add_zero]
  exact if_congr (by simp [standField, within_iff]) rfl rfl

/-- R154: a gauge's command field is written once where it is in the map and lies within the frame. -/
theorem State.timesWritten_gauge (g : GaugeNo) :
    s.timesWritten count (.gauge g) = if (s.gauge g).loaded = true ∧ gaugeCommandBase (s.gauge g).table + 2 ≤ count then 1 else 0 := by
  rw [s.timesWritten_eq, State.commandFields, List.countP_append, List.countP_append, List.countP_append,
    s.countP_holdFields count (o := .gauge g) rfl,
    countP_filterMap_pick (a := g) (fun b other => by simp [gaugeField, other]) _ (List.nodup_finRange 4),
    countP_filterMap_none (by simp [standField]), countP_filterMap_none (by simp [folderField])]
  simp only [Nat.add_zero, Nat.zero_add]
  exact if_congr (by simp [gaugeField, within_iff]) rfl rfl

/-- R154: a folder's command field is written once where it is in the map and lies within the frame. -/
theorem State.timesWritten_folder (g : GroupNo) :
    s.timesWritten count (.folder g) = if (s.group g).loaded = true ∧ folderCommandBase (s.group g).table + 2 ≤ count then 1 else 0 := by
  rw [s.timesWritten_eq, State.commandFields, List.countP_append, List.countP_append, List.countP_append,
    s.countP_holdFields count (o := .folder g) rfl,
    countP_filterMap_none (by simp [standField]), countP_filterMap_none (by simp [gaugeField]),
    countP_filterMap_pick (a := g) (fun b other => by simp [folderField, other]) _ (List.nodup_finRange 4)]
  simp only [Nat.add_zero, Nat.zero_add]
  exact if_congr (by simp [folderField, within_iff]) rfl rfl

end

/-! ### The counters -/

/-- R154: an item that one field's writing changes is changed once for every time the field is written. -/
theorem foldl_advanceCounter {β : Type} (get : State → β) (change : β → β) (o : OutputField)
    (self : ∀ u, get (advanceCounter o u) = change (get u)) (other : ∀ u p, p ≠ o → get (advanceCounter p u) = get u)
    (l : List (Placed OutputField)) (s : State) :
    get (l.foldl (fun u p => advanceCounter p.field u) s) = change^[l.countP fun p => p.field == o] (get s) := by
  induction l generalizing s with
  | nil => rfl
  | cons p l ih =>
    rw [List.foldl_cons, ih, List.countP_cons]
    by_cases same : p.field = o
    · rw [if_pos (by simp [same]), Function.iterate_succ_apply, same, self]
    · rw [if_neg (by simp [same]), Nat.add_zero, other s _ same]

/-- A counter that advances once, or not at all. -/
theorem iterate_once {β : Type} (change : β → β) (p : Prop) [Decidable p] (b : β) :
    change^[if p then 1 else 0] b = if p then change b else b := by
  split <;> rfl

section

variable (f : Frame) (s : State)

theorem outputState_stand (n : StandNo) :
    (outputState f s).stand n =
      if (s.stand n).loaded = true ∧ commandBase (s.stand n).table + 6 ≤ f.slots.length then
        { s.stand n with freshness := (s.stand n).freshness + 1 }
      else s.stand n := by
  have same := sameUnits_based f s
  have written := (based f s).timesWritten_stand (slotCount f) n
  rw [State.timesWritten] at written
  rw [outputState_eq, foldl_advanceCounter (·.stand n) (fun st => { st with freshness := st.freshness + 1 }) (.stand n)
    (fun u => u.onStand_stand_self n _) (fun u p other => ?_), written, iterate_once, same.stand, slotCount]
  cases p with
  | stand m => exact u.onStand_stand_ne m n _ fun e => other (e ▸ rfl)
  | _ => rfl

theorem outputState_gauge (g : GaugeNo) :
    (outputState f s).gauge g =
      if (s.gauge g).loaded = true ∧ gaugeCommandBase (s.gauge g).table + 2 ≤ f.slots.length then
        { s.gauge g with freshness := (s.gauge g).freshness + 1 }
      else s.gauge g := by
  have same := sameUnits_based f s
  have written := (based f s).timesWritten_gauge (slotCount f) g
  rw [State.timesWritten] at written
  rw [outputState_eq, foldl_advanceCounter (·.gauge g) (fun u => { u with freshness := u.freshness + 1 }) (.gauge g)
    (fun u => u.onGauge_gauge_self g _) (fun u p other => ?_), written, iterate_once, same.gauge, slotCount]
  cases p with
  | gauge m => exact u.onGauge_gauge_ne m g _ fun e => other (e ▸ rfl)
  | _ => rfl

theorem outputState_group (g : GroupNo) :
    (outputState f s).group g =
      if (s.group g).loaded = true ∧ folderCommandBase (s.group g).table + 2 ≤ f.slots.length then
        { s.group g with freshness := (s.group g).freshness + 1 }
      else s.group g := by
  have same := sameUnits_based f s
  have written := (based f s).timesWritten_folder (slotCount f) g
  rw [State.timesWritten] at written
  rw [outputState_eq, foldl_advanceCounter (·.group g) (fun u => { u with freshness := u.freshness + 1 }) (.folder g)
    (fun u => u.onGroup_group_self g _) (fun u p other => ?_), written, iterate_once, same.group, slotCount]
  cases p with
  | folder m => exact u.onGroup_group_ne m g _ fun e => other (e ▸ rfl)
  | _ => rfl

/-- R134: step 7 leaves the stands and the gauges, and the groups but for their orders prepared. -/
theorem workState_units :
    ((workState f s).stands = (outputState f s).stands ∧ (workState f s).gauges = (outputState f s).gauges) ∧
      ∀ g, (workState f s).group g = { (outputState f s).group g with orderPrepared := false } := by
  obtain ⟨rest, changed, -⟩ := foldl_each (fun u g => u.group g) (fun u => (u.stands, u.gauges)) (fun _ => True)
    (fun _ x => { x with orderPrepared := false }) (f := fun u g => u.onGroup g fun x => { x with orderPrepared := false })
    (fun u g _ => u.onGroup_group_self g _) (fun u g k _ other => u.onGroup_group_ne g k _ other) (fun _ _ _ => rfl)
    (List.finRange 4) (List.nodup_finRange 4) (outputState f s) trivial
  exact ⟨Prod.mk.inj rest, fun g => changed g (List.mem_finRange g)⟩

theorem acceptFrame_stand (n : StandNo) : (acceptFrame f s).stand n = (outputState f s).stand n := by
  obtain ⟨⟨stands, -⟩, -⟩ := workState_units f s
  obtain ⟨-, -, same, -⟩ := acceptFrame_blocks f s
  rw [State.stand, same, stands]
  rfl

theorem acceptFrame_gauge (g : GaugeNo) : (acceptFrame f s).gauge g = (outputState f s).gauge g := by
  obtain ⟨⟨-, gauges⟩, -⟩ := workState_units f s
  obtain ⟨-, -, -, same, -⟩ := acceptFrame_blocks f s
  rw [State.gauge, same, gauges]
  rfl

theorem acceptFrame_group (g : GroupNo) :
    (acceptFrame f s).group g = { (outputState f s).group g with orderPrepared := false } := by
  obtain ⟨-, -, -, -, same⟩ := acceptFrame_blocks f s
  rw [State.group, same]
  exact (workState_units f s).2 g

end

end Sys2Proof.Machine

namespace Sys2Proof.Proofs

open Sys2Proof.Machine

/-- Settles O33: the events of `announced`, with room for both. -/
theorem acceptanceEvents : Obligations.AcceptanceEvents := by
  intro f s header short room
  have isShort : s.allWithin (slotCount f) = false ↔ short := by
    rw [← Bool.not_eq_true, s.allWithin_iff]
    simp only [short, not_and_or, not_forall, slotCount, Nat.not_le, exists_prop]
  have own (k : EventKind) : header (frameEvent k f) := ⟨rfl, rfl, rfl, rfl, rfl⟩
  obtain ⟨t, map, record⟩ := acceptFrame_frame f s
  refine ⟨if s.port.ring = .lost then [frameEvent .ringBack f] else [],
    if s.allWithin (slotCount f) = false ∧ s.port.shortFrame = false then [frameEvent .fieldRange f] else [],
    by rw [acceptFrame_responder, announced_events f s room], fun up => if_neg (by simp [up]),
    fun lost => ⟨_, if_pos lost, rfl, own _⟩, fun ⟨low, first⟩ => ⟨_, if_pos ⟨isShort.2 low, first⟩, rfl, own _⟩,
    fun none => if_neg ?_, ?_, ?_, rfl, ?_, fun n => ?_⟩
  · rintro ⟨low, first⟩
    rcases none with whole | again
    · exact whole (isShort.1 low)
    · simp [first] at again
  · rw [acceptFrame_port, ← isShort]
    simp
  · rw [acceptFrame_responder, announced_ringFlag]
    rfl
  · refine List.ext_getElem (by simp) fun i h _ => ?_
    have stand := (acceptFrame_stand f s ⟨i, by simpa using h⟩).trans (outputState_stand f s _)
    have state := congrArg Stand.state stand
    rw [apply_ite Stand.state, ite_self] at state
    simpa [State.stand] using state
  · rw [record]
    simp [staleLimit, (map.stand n).1]

end Sys2Proof.Proofs
end

section
/-!
PROOFS. The status record item by item (R111, R176, R189), and where the written runs leave it in a frame (R152, R154).
-/

namespace Sys2Proof.Machine

/-! ### Numbers placed below what is read -/

theorem bitOf_place_past {v lo k i : Nat} (fits : v < 2 ^ k) (h : lo + k ≤ i) : bitOf (place v lo) i = false :=
  bitOf_place_above (fits.trans_le (Nat.pow_le_pow_right (by decide) (by omega)))

theorem bits_place_past {v lo k l len : Nat} (fits : v < 2 ^ k) (h : lo + k ≤ l) : bits (place v lo) l len = 0 :=
  bits_place_above (fits.trans_le (Nat.pow_le_pow_right (by decide) (by omega)))

/-! ### The items of the status record -/

section

variable (s : State)

/-- R189: the part-wide status slot, item by item. -/
theorem State.partStatus_items (h : s.eventsSound) :
    bitOf s.partStatus 0 = (s.port.ring == .lost) ∧ bitOf s.partStatus 1 = s.responder.overflow ∧
    bitOf s.partStatus 2 = s.responder.eventsFlag ∧ bitOf s.partStatus 3 = s.responder.ringFlag ∧
    bits s.partStatus 8 6 = s.responder.events.length := by
  have count : s.responder.events.length < 2 ^ 6 := Nat.lt_of_le_of_lt h (by decide)
  unfold State.partStatus
  refine ⟨?_, ?_, ?_, ?_, ?_⟩
  · simp [bitOf_placeBit, bitOf_place_below]
  · simp [bitOf_placeBit, bitOf_place_below]
  · simp [bitOf_placeBit, bitOf_place_below]
  · simp [bitOf_placeBit, bitOf_place_below]
  · simp [bits_placeBit, bits_place count]

/-- R111: the lock indication by the holders. -/
theorem State.lockIndication_eq (n : StandNo) :
    s.lockIndication n =
      if (s.group (s.groupOf n)).holder = .stand n then 1 else if ∃ g, (s.group g).holder = .entry n then 2 else 0 := by
  have entry : s.groups.toList.any (·.holder == .entry n) = true ↔ ∃ g, (s.group g).holder = .entry n := by
    rw [List.any_eq_true]
    constructor
    · rintro ⟨u, m, h⟩
      obtain ⟨i, hi, rfl⟩ := List.mem_iff_getElem.1 m
      exact ⟨⟨i, by simpa using hi⟩, by simpa [State.group] using h⟩
    · rintro ⟨g, h⟩
      exact ⟨s.group g, by simp [State.group], by simp [h]⟩
  simp only [State.lockIndication, State.holdsLock, beq_iff_eq, entry]

theorem State.lockIndication_lt (n : StandNo) : s.lockIndication n < 2 ^ 2 := by
  unfold State.lockIndication
  split
  · decide
  · split <;> decide

/-- R189: a stand's status slot, item by item. -/
theorem State.standStatus_items (n : StandNo) :
    bits (s.standStatus n) 0 4 = stateCode (s.stand n).state ∧ bits (s.standStatus n) 4 2 = phaseCode (s.stand n).state ∧
    bits (s.standStatus n) 8 4 = faultItem (s.stand n).faultCode ∧
    bitOf (s.standStatus n) 12 = (s.flagsOf n).fault ∧ bitOf (s.standStatus n) 13 = (s.flagsOf n).spliceDone ∧
    bitOf (s.standStatus n) 14 = (s.flagsOf n).rangeResult ∧ bitOf (s.standStatus n) 15 = (s.flagsOf n).stale ∧
    bitOf (s.standStatus n) 16 = (s.stand n).auto ∧ bitOf (s.standStatus n) 17 = (s.stand n).forced ∧
    bits (s.standStatus n) 20 2 = s.lockIndication n := by
  have a : stateCode (s.stand n).state < 2 ^ 4 := stateCode_lt _
  have b : phaseCode (s.stand n).state < 2 ^ 2 := phaseCode_lt _
  have c : faultItem (s.stand n).faultCode < 2 ^ 4 := faultItem_lt _
  have d := s.lockIndication_lt n
  have past {i : Nat} (h : 12 ≤ i) :
      bitOf (place (stateCode (s.stand n).state) 0) i = false ∧ bitOf (place (phaseCode (s.stand n).state) 4) i = false ∧
        bitOf (place (faultItem (s.stand n).faultCode) 8) i = false :=
    ⟨bitOf_place_past a (by omega), bitOf_place_past b (by omega), bitOf_place_past c (by omega)⟩
  simp only [State.standStatus]
  refine ⟨?_, ?_, ?_, ?_, ?_, ?_, ?_, ?_, ?_, ?_⟩
  · simp [bits_placeBit, bits_place_below, bits_place a]
  · simp [bits_placeBit, bits_place_below, bits_place b, bits_place_past a]
  · simp [bits_placeBit, bits_place_below, bits_place c, bits_place_past a, bits_place_past b]
  · simp [bitOf_placeBit, bitOf_place_below, past]
  · simp [bitOf_placeBit, bitOf_place_below, past]
  · simp [bitOf_placeBit, bitOf_place_below, past]
  · simp [bitOf_placeBit, bitOf_place_below, past]
  · simp [bitOf_placeBit, bitOf_place_below, past]
  · simp [bitOf_placeBit, bitOf_place_below, past]
  · simp [bits_placeBit, bits_place d, bits_place_past a, bits_place_past b, bits_place_past c]

theorem State.statusRecord_part : slotAt s.statusRecord 0 = s.partStatus := rfl

theorem State.statusRecord_stand (n : StandNo) : slotAt s.statusRecord (1 + n.val) = s.standStatus n := by
  have inside : n.val < ((List.finRange 8).map s.standStatus).length := by simp
  rw [State.statusRecord, Nat.add_comm, List.cons_append, slotAt_cons_succ, slotAt, List.getD_append _ _ _ _ inside]
  simp

theorem State.statusRecord_rest {i : Nat} (low : 9 ≤ i) (high : i < 20) : slotAt s.statusRecord i = 0 := by
  obtain ⟨j, rfl⟩ := Nat.exists_eq_add_of_le low
  have inside : j < 11 := by omega
  rw [State.statusRecord, show 9 + j = (8 + j) + 1 by omega, List.cons_append, slotAt_cons_succ, slotAt,
    List.getD_append_right _ _ _ _ (by simp)]
  exact List.getD_replicate _ (by simpa using inside)

/-- R176: slots that hold a state's status record show that state. -/
theorem State.statusShows_of_record (h : s.eventsSound) {slots : List Word} {base : Nat}
    (record : ∀ i, i < 20 → slotAt slots (base + i) = slotAt s.statusRecord i) : s.statusShows slots base := by
  have part : slotAt slots base = s.partStatus := record 0 (by decide)
  refine ⟨?_, fun n => ?_, fun i low high => (record i high).trans (s.statusRecord_rest low high)⟩
  · obtain ⟨ring, overflow, events, back, count⟩ := s.partStatus_items h
    simp only [part]
    exact ⟨ring.trans (by cases s.port.ring <;> rfl), overflow, events, back, count⟩
  · have stand : slotAt slots (base + 1 + n.val) = s.standStatus n := by
      rw [Nat.add_assoc, record (1 + n.val) (by omega), s.statusRecord_stand]
    simp only [stand]
    rw [← s.lockIndication_eq]
    exact s.standStatus_items n

end

/-- R176: the status record shows the ring, the responder, the stands and the holders. -/
theorem State.statusRecord_congr {s t : State} (ring : t.port.ring = s.port.ring) (responder : t.responder = s.responder)
    (stands : ∀ n, t.stand n = s.stand n) (holders : ∀ g, (t.group g).holder = (s.group g).holder) : t.statusRecord = s.statusRecord := by
  have lock (n : StandNo) : t.lockIndication n = s.lockIndication n := by
    rw [t.lockIndication_eq, s.lockIndication_eq, State.groupOf, stands, holders]
    exact if_congr Iff.rfl rfl (if_congr (exists_congr fun g => by rw [holders]) rfl rfl)
  have flags (n : StandNo) : t.flagsOf n = s.flagsOf n := by
    rw [State.flagsOf, responder]
    rfl
  have status (n : StandNo) : t.standStatus n = s.standStatus n := by
    simp only [State.standStatus, flags, lock, stands]
  simp only [State.statusRecord, State.partStatus, ring, responder, funext status]

/-! ### The status field of a frame -/

theorem State.slotAt_writeStatus_inside {s : State} {slots : List Word} (within : s.port.statusBase + 20 ≤ slots.length) {i : Nat}
    (h : i < 20) : slotAt (s.writeStatus slots) (s.port.statusBase + i) = slotAt s.statusRecord i := by
  rw [State.writeStatus, if_pos within, slotAt_writeSlots_inside (by omega) (by rw [s.length_statusRecord]; exact h)]

theorem State.slotAt_writeStatus_outside {s : State} {slots : List Word} {i : Nat}
    (h : i < s.port.statusBase ∨ s.port.statusBase + 20 ≤ i ∨ slots.length < s.port.statusBase + 20) :
    slotAt (s.writeStatus slots) i = slotAt slots i := by
  unfold State.writeStatus
  split
  · exact slotAt_writeSlots_outside (by rw [s.length_statusRecord]; assumption) (by rw [s.length_statusRecord]; omega)
  · rfl

/-- R154: a slot of written outputs, from what every field brings that covers it. -/
theorem State.slotAt_writeOutputs {s : State} {t : BitVec 32} {slots : List Word} {i : Nat} {v : Word}
    (agree : ∀ p ∈ s.commandFields, p.base + p.len ≤ slots.length → p.base ≤ i → i < p.base + p.len →
      slotAt (s.content t p.field) (i - p.base) = v)
    (reached : slotAt (s.writeStatus slots) i = v ∨
      ∃ p ∈ s.commandFields, p.base + p.len ≤ slots.length ∧ p.base ≤ i ∧ i < p.base + p.len) :
    slotAt (s.writeOutputs t slots) i = v := by
  rw [State.writeOutputs_eq]
  refine slotAt_writeRuns (fun r m => ?_) (fun r m low high => ?_) (reached.imp id ?_)
  · rw [s.length_writeStatus]
    exact State.outputRuns_inside r m
  · obtain ⟨p, placed, within, rfl⟩ := State.mem_outputRuns.1 m
    exact agree p placed within low (State.length_content t placed ▸ high)
  · rintro ⟨p, placed, within, low, high⟩
    exact ⟨_, State.mem_outputRuns.2 ⟨p, placed, within, rfl⟩, low, (State.length_content t placed).symm ▸ high⟩

/-! ### The output fields that share a slot (R152) -/

/-- R151: the output fields that a table has in the map. -/
def State.outputsOf (s : State) : TableId → List (Placed OutputField)
  | .part => []
  | .stand n => if (s.stand n).loaded then [standField n (s.stand n).table] else []
  | .path n => holdFields (s.path n).table
  | .group g => if (s.group g).loaded then [folderField g (s.group g).table] else []
  | .gauge g => if (s.gauge g).loaded then [gaugeField g (s.gauge g).table] else []

theorem State.mem_outputsOf {s : State} {p : Placed OutputField} (m : p ∈ s.commandFields) : ∃ o, o ≠ .part ∧ p ∈ s.outputsOf o := by
  rcases (s.mem_commandFields p).1 m with ⟨n, loaded, rfl⟩ | ⟨g, loaded, rfl⟩ | ⟨g, loaded, rfl⟩ | ⟨n, m⟩
  · exact ⟨.stand n, by simp, by simp [State.outputsOf, loaded]⟩
  · exact ⟨.gauge g, by simp, by simp [State.outputsOf, loaded]⟩
  · exact ⟨.group g, by simp, by simp [State.outputsOf, loaded]⟩
  · exact ⟨.path n, by simp, m⟩

theorem State.outputsOf_subset {s : State} {o : TableId} {p : Placed OutputField} (m : p ∈ s.outputsOf o) : p ∈ s.fieldsOf o := by
  cases o with
  | part => simp [State.outputsOf] at m
  | stand | path | group | gauge => exact List.mem_append_left _ m

/-- R151: a table has one output field in the map, or hold slots. -/
theorem State.outputsOf_same {s : State} {o : TableId} {p q : Placed OutputField} (m : p ∈ s.outputsOf o) (k : q ∈ s.outputsOf o) :
    p = q ∨ p.field.isHold = true ∧ q.field.isHold = true := by
  have one (c : Bool) (a : Placed OutputField) (m : p ∈ if c = true then [a] else []) (k : q ∈ if c = true then [a] else []) : p = q := by
    cases c <;> simp_all
  cases o with
  | part => simp [State.outputsOf] at m
  | stand | group | gauge => exact .inl (one _ _ m k)
  | path n =>
    obtain ⟨c, -, -, rfl⟩ := mem_holdFields.1 m
    obtain ⟨d, -, -, rfl⟩ := mem_holdFields.1 k
    exact .inr ⟨rfl, rfl⟩

/-- R152: no conflict means that only hold slots share a slot. -/
theorem holds_of_conflict {p q : Placed OutputField} (clear : conflict p q = false) {i : Nat} (hp : p.base ≤ i ∧ i < p.base + p.len)
    (hq : q.base ≤ i ∧ i < q.base + q.len) : p.field.isHold = true ∧ q.field.isHold = true := by
  have overlap : decide (p.base < q.base + q.len ∧ q.base < p.base + p.len) = true := decide_eq_true (by omega)
  simpa [conflict, overlap] using clear

/-- R151: a hold slot of the map is one slot long. -/
theorem State.hold_eq {s : State} {p : Placed OutputField} (m : p ∈ s.commandFields) (h : p.field.isHold = true) :
    p = ⟨.hold p.base, p.base, 1⟩ := by
  rcases (s.mem_commandFields p).1 m with ⟨n, -, rfl⟩ | ⟨g, -, rfl⟩ | ⟨g, -, rfl⟩ | ⟨n, m⟩
  · simp [standField, OutputField.isHold] at h
  · simp [gaugeField, OutputField.isHold] at h
  · simp [folderField, OutputField.isHold] at h
  · obtain ⟨c, -, -, rfl⟩ := mem_holdFields.1 m
    rfl

/-- R152: where the placement check holds, output fields that share a slot are the same. -/
theorem State.commandFields_apart {s : State} (sound : s.placementSound) {p q : Placed OutputField} (m : p ∈ s.commandFields)
    (k : q ∈ s.commandFields) {i : Nat} (hp : p.base ≤ i ∧ i < p.base + p.len) (hq : q.base ≤ i ∧ i < q.base + q.len) : p = q := by
  obtain ⟨a, -, ma⟩ := State.mem_outputsOf m
  obtain ⟨b, -, kb⟩ := State.mem_outputsOf k
  have same : p = q ∨ p.field.isHold = true ∧ q.field.isHold = true := by
    by_cases e : a = b
    · subst e
      exact State.outputsOf_same ma kb
    · exact .inr (holds_of_conflict
        (sound a (mem_allTables a) b (mem_allTables b) e p (State.outputsOf_subset ma) q (State.outputsOf_subset kb)) hp hq)
  rcases same with same | ⟨holdP, holdQ⟩
  · exact same
  · have eP := State.hold_eq m holdP
    have eQ := State.hold_eq k holdQ
    have base : p.base = q.base := by
      rw [eP] at hp
      rw [eQ] at hq
      obtain ⟨hp, hp'⟩ := hp
      obtain ⟨hq, hq'⟩ := hq
      simp only at hp hp' hq hq'
      omega
    rw [eP, eQ, base]

/-- R152: where the placement check holds, no output field shares a slot with the status field. -/
theorem State.status_apart {s : State} (sound : s.placementSound) {p : Placed OutputField} (m : p ∈ s.commandFields) {i : Nat}
    (hp : p.base ≤ i ∧ i < p.base + p.len) : i < statusBaseEntry s.responder.table ∨ statusBaseEntry s.responder.table + 20 ≤ i := by
  obtain ⟨a, other, ma⟩ := State.mem_outputsOf m
  by_contra inside
  have clear := sound .part (mem_allTables _) a (mem_allTables a) other.symm _ (List.mem_singleton_self _) p (State.outputsOf_subset ma)
  obtain ⟨hold, -⟩ := holds_of_conflict (i := i) clear (by simp only [statusField]; omega) hp
  simp [statusField, OutputField.isHold] at hold

/-! ### The slots of an accepted frame -/

section

variable (f : Frame) (s : State)

theorem sameMap_outputState : SameMap s (outputState f s) := by
  have same := sameUnits_based f s
  exact (SameMap.of_blocks same.stands same.gauges same.groups).trans
    (.foldl (fun u (p : Placed OutputField) => sameMap_advanceCounter p.field u) _ _)

/-- R151: an acceptance does not move the map. -/
theorem outputState_commandFields : (outputState f s).commandFields = s.commandFields := by
  have map := sameMap_outputState f s
  have path (n : StandNo) : (outputState f s).path n = s.path n := by
    rw [State.path, (unitsOnly_outputState f s).paths, (sameUnits_based f s).paths]
    rfl
  simp only [State.commandFields, fun n => (map.stand n).1, fun n => (map.stand n).2, fun g => (map.gauge g).1, fun g => (map.gauge g).2,
    fun g => (map.group g).1, fun g => (map.group g).2.1, path]

theorem outputState_port : (outputState f s).port = (acceptFrame f s).port := by
  obtain ⟨port, -⟩ := acceptFrame_blocks f s
  exact (port.trans (unitsOnly_workState f s).port).symm

theorem outputState_statusBase : (outputState f s).port.statusBase = statusBaseEntry s.responder.table := by
  rw [outputState_port, acceptFrame_port]

/-- R154: a slot of the frame that leaves at OUT, from what every field brings that covers it. -/
theorem slotAt_acceptedSlots {i : Nat} {v : Word}
    (agree : ∀ p ∈ s.commandFields, p.base + p.len ≤ f.slots.length → p.base ≤ i → i < p.base + p.len →
      slotAt ((outputState f s).content (frameTime f) p.field) (i - p.base) = v)
    (reached : slotAt ((outputState f s).writeStatus f.slots) i = v ∨
      ∃ p ∈ s.commandFields, p.base + p.len ≤ f.slots.length ∧ p.base ≤ i ∧ i < p.base + p.len) :
    slotAt (acceptedSlots f s) i = v := by
  rw [← outputState_commandFields f s] at agree reached
  exact State.slotAt_writeOutputs agree reached

/-- R152, R154: a field that lies within the frame carries its content, where the placement check holds. -/
theorem slotAt_acceptedSlots_field (sound : s.placementSound) {p : Placed OutputField} (m : p ∈ s.commandFields)
    (within : p.base + p.len ≤ f.slots.length) {i : Nat} (h : i < p.len) :
    slotAt (acceptedSlots f s) (p.base + i) = slotAt ((outputState f s).content (frameTime f) p.field) i := by
  refine slotAt_acceptedSlots f s (fun q k _ low high => ?_) (.inr ⟨p, m, within, by omega, by omega⟩)
  obtain rfl := State.commandFields_apart sound m k (i := p.base + i) ⟨by omega, by omega⟩ ⟨low, high⟩
  simp

/-- R152, R154: the status field, where it lies within the frame, carries the status record. -/
theorem slotAt_acceptedSlots_status (sound : s.placementSound) (within : statusBaseEntry s.responder.table + 20 ≤ f.slots.length) {i : Nat}
    (h : i < 20) :
    slotAt (acceptedSlots f s) (statusBaseEntry s.responder.table + i) = slotAt (outputState f s).statusRecord i := by
  have base := outputState_statusBase f s
  refine slotAt_acceptedSlots f s (fun p m _ low high => ?_) (.inl ?_)
  · have := State.status_apart sound m ⟨low, high⟩
    omega
  · rw [← base]
    exact State.slotAt_writeStatus_inside (by rw [base]; exact within) h

/-- R146, R154: a slot that no field covers which the frame reaches leaves as it arrived. -/
theorem slotAt_acceptedSlots_unwritten {i : Nat}
    (status : i < statusBaseEntry s.responder.table ∨ statusBaseEntry s.responder.table + 20 ≤ i ∨
      f.slots.length < statusBaseEntry s.responder.table + 20)
    (commands : ∀ p ∈ s.commandFields, p.base + p.len ≤ f.slots.length → i < p.base ∨ p.base + p.len ≤ i) :
    slotAt (acceptedSlots f s) i = slotAt f.slots i := by
  refine slotAt_acceptedSlots f s (fun p m within low high => ?_) (.inl (State.slotAt_writeStatus_outside ?_))
  · have := commands p m within
    omega
  · rw [outputState_statusBase]
    exact status

/-- R176: the status record of the frame shows the state that the acceptance leaves. -/
theorem acceptFrame_statusRecord : (acceptFrame f s).statusRecord = (outputState f s).statusRecord := by
  refine State.statusRecord_congr (by rw [outputState_port]) ?_ (acceptFrame_stand f s) fun g => by rw [acceptFrame_group]
  obtain ⟨-, responder, -⟩ := acceptFrame_blocks f s
  exact responder.trans (unitsOnly_workState f s).responder

end

end Sys2Proof.Machine

namespace Sys2Proof.Proofs

open Sys2Proof.Machine

/-- Settles O34: the status field holds the record of the state that the acceptance leaves, and no field overwrites it. -/
theorem statusRecord : Obligations.StatusRecord := by
  refine ⟨by decide, fun f plan s low idle accepts sound events within => ?_⟩
  have kept := workKept_carryOutAll (planOrder plan (acceptFrame f s).frame.due)
    ((acceptFrame f s).onFrame fun w => { w with grantFirst := plan.grantFirst })
  obtain ⟨o, out, -, slots⟩ := acceptFrame_out f s
  refine ⟨_, o, by rw [exec_cycleFrame low, finishFrame_idle idle, if_pos accepts], by rw [kept.out, State.onFrame_out, out], ?_⟩
  rw [slots]
  refine State.statusShows_of_record _ (acceptFrame_eventsSound f s events) fun i h => ?_
  rw [acceptFrame_statusRecord]
  exact slotAt_acceptedSlots_status f s sound within h

/-- Settles O36: the slots that no written run covers, and the counters by how often their fields are written. -/
theorem unwrittenSlotsStay : Obligations.UnwrittenSlotsStay := by
  intro f s
  obtain ⟨o, out, -, slots⟩ := acceptFrame_out f s
  refine ⟨o, out, fun i status commands => ?_, fun n => ?_, fun g => ?_, fun g => ?_⟩
  · rw [slots]
    exact slotAt_acceptedSlots_unwritten f s status commands
  · rw [acceptFrame_stand, outputState_stand, apply_ite Stand.freshness]
  · rw [acceptFrame_gauge, outputState_gauge, apply_ite Gauge.freshness]
  · rw [acceptFrame_group]
    show ((outputState f s).group g).freshness = _
    rw [outputState_group, apply_ite Group.freshness]

end Sys2Proof.Proofs
end

section
/-!
PROOFS. What the command fields of an accepted frame carry (R90, R132, R188), and the refused cycle frame (R148).
-/

namespace Sys2Proof.Machine

/-! ### Execute times (R90) -/

section

variable (execute : Option (BitVec 32)) (time : BitVec 32) (lead : Nat)

theorem carried_isSome_iff :
    (carried execute time lead).isSome = true ↔ ∃ b, execute = some b ∧ (lead : Int) ≤ (b - time).toInt := by
  cases execute with
  | none => simp [carried]
  | some b => simp [carried, Option.filter, since, apply_ite Option.isSome]

/-- R90: a time that is carried is the execute time, and lies far enough ahead. -/
theorem carried_getD (h : (carried execute time lead).isSome = true) :
    execute = some ((carried execute time lead).getD 0) ∧ (lead : Int) ≤ ((carried execute time lead).getD 0 - time).toInt := by
  obtain ⟨b, rfl, late⟩ := (carried_isSome_iff execute time lead).1 h
  have kept : carried (some b) time lead = some b := if_pos (decide_eq_true late)
  rw [kept]
  exact ⟨rfl, late⟩

/-- R188: a time that is not carried reads as 0. -/
theorem carried_getD_none (h : (carried execute time lead).isSome = false) : (carried execute time lead).getD 0 = 0 := by
  rw [Option.isSome_eq_false_iff, Option.isNone_iff_eq_none] at h
  rw [h]
  rfl

end

/-! ### The items of the command fields (R188) -/

theorem rotationCode_lt (r : RotationMode) : rotationCode r < 2 ^ 2 := by cases r <;> decide

theorem armCode_lt (a : ArmOrder) : armCode a < 2 ^ 1 := by cases a <;> decide

/-- R188: the first slot of a stand command field, item by item. -/
theorem standCommand_items (st : Stand) (time : BitVec 32) (lead : Nat) :
    let w := slotAt (standCommand st time lead) 0
    bits w 0 4 = st.freshness.toNat ∧ bits w 8 2 = rotationCode st.rotation ∧ bits w 12 1 = armCode st.arm ∧
      bitOf w 16 = (carried st.brushAt time lead).isSome ∧ bitOf w 17 = (carried st.knifeAt time lead).isSome := by
  have a : st.freshness.toNat < 2 ^ 4 := st.freshness.isLt
  have b := rotationCode_lt st.rotation
  have c := armCode_lt st.arm
  have past {i : Nat} (h : 13 ≤ i) :
      bitOf (place st.freshness.toNat 0) i = false ∧ bitOf (place (rotationCode st.rotation) 8) i = false ∧
        bitOf (place (armCode st.arm) 12) i = false :=
    ⟨bitOf_place_past a (by omega), bitOf_place_past b (by omega), bitOf_place_past c (by omega)⟩
  simp only [standCommand, slotAt_cons_zero]
  refine ⟨?_, ?_, ?_, ?_, ?_⟩
  · simp [bits_placeBit, bits_place_below, bits_place a]
  · simp [bits_placeBit, bits_place_below, bits_place b, bits_place_past a]
  · simp [bits_placeBit, bits_place c, bits_place_past a, bits_place_past b]
  · simp [bitOf_placeBit, past]
  · simp [bitOf_placeBit, past]

theorem gaugeOrder_lt (x : GaugeState) : gaugeOrder x < 2 ^ 2 := by cases x <;> simp [gaugeOrder]

theorem gaugeStandNumber_lt (x : GaugeState) : gaugeStandNumber x < 2 ^ 4 := by
  cases x with
  | measuring n t => exact Nat.lt_trans n.isLt (by decide)
  | idle | cancelling t => exact (by decide : 15 < 2 ^ 4)

/-- R188: a gauge command field, item by item. -/
theorem gaugeCommand_items (g : Gauge) :
    bits (slotAt (gaugeCommand g) 0) 0 4 = g.freshness.toNat ∧ bits (slotAt (gaugeCommand g) 0) 8 2 = gaugeOrder g.state ∧
      bits (slotAt (gaugeCommand g) 1) 0 4 = gaugeStandNumber g.state ∧ bits (slotAt (gaugeCommand g) 1) 16 8 = g.sequence.toNat := by
  have a : g.freshness.toNat < 2 ^ 4 := g.freshness.isLt
  have b := gaugeOrder_lt g.state
  have c := gaugeStandNumber_lt g.state
  have d : g.sequence.toNat < 2 ^ 8 := g.sequence.isLt
  simp only [gaugeCommand, slotAt_cons_zero, slotAt_cons_succ (i := 0)]
  refine ⟨?_, ?_, ?_, ?_⟩
  · simp [bits_place_below, bits_place a]
  · simp [bits_place b, bits_place_past a]
  · simp [bits_place_below, bits_place c]
  · simp [bits_place d, bits_place_past c]

/-- R188: a folder command field, item by item. -/
theorem folderCommand_items (g : Group) :
    bits (slotAt (folderCommand g) 0) 0 4 = g.freshness.toNat ∧ bits (slotAt (folderCommand g) 0) 16 8 = g.orderNumber.toNat ∧
      slotAt (folderCommand g) 1 = BitVec.ofNat 32 g.copyCount := by
  have a : g.freshness.toNat < 2 ^ 4 := g.freshness.isLt
  have b : g.orderNumber.toNat < 2 ^ 8 := g.orderNumber.isLt
  simp only [folderCommand, slotAt_cons_zero]
  refine ⟨?_, ?_, place_zero _⟩
  · simp [bits_place_below, bits_place a]
  · simp [bits_place b, bits_place_past a]

/-! ### The hold windows (R132) -/

theorem le_foldl_max (l : List Nat) (a : Nat) : a ≤ l.foldl max a ∧ ∀ y ∈ l, y ≤ l.foldl max a := by
  induction l generalizing a with
  | nil => simp
  | cons b l ih =>
    obtain ⟨start, rest⟩ := ih (max a b)
    refine ⟨(le_max_left a b).trans start, fun y m => ?_⟩
    rcases List.mem_cons.1 m with rfl | m
    · exact (le_max_right a y).trans start
    · exact rest y m

theorem foldl_max_mem (l : List Nat) (a : Nat) : l.foldl max a = a ∨ l.foldl max a ∈ l := by
  induction l generalizing a with
  | nil => simp
  | cons b l ih =>
    rw [List.foldl_cons]
    rcases ih (max a b) with h | h
    · rw [h]
      rcases max_choice a b with e | e <;> simp [e]
    · exact .inr (List.mem_cons_of_mem b h)

/-- R132: a hold slot carries the largest window prepared for it, or 0. -/
theorem State.windowFor_largest (s : State) (slot : Nat) :
    (∀ y, (slot, y) ∈ s.windows → y ≤ s.windowFor slot) ∧ (s.windowFor slot = 0 ∨ (slot, s.windowFor slot) ∈ s.windows) := by
  have mem (y : Nat) : y ∈ (s.windows.filter (·.1 == slot)).map (·.2) ↔ (slot, y) ∈ s.windows := by
    simp only [List.mem_map, List.mem_filter, beq_iff_eq]
    constructor
    · rintro ⟨⟨a, b⟩, ⟨m, rfl⟩, rfl⟩
      exact m
    · exact fun m => ⟨(slot, y), ⟨m, rfl⟩, rfl⟩
  exact ⟨fun y m => (le_foldl_max _ 0).2 y ((mem y).2 m), (foldl_max_mem _ 0).imp id (mem _).1⟩

/-! ### The refused frame (R148) -/

theorem State.writeStatus_short {s : State} {slots : List Word} (h : slots.length < s.port.statusBase + 20) : s.writeStatus slots = slots :=
  if_neg (by omega)

/-- R147, R148: what a frame that is not accepted has. -/
theorem State.not_accepts {s : State} {f : Frame}
    (h : f.head2.toNat < 250 ∨ 4000 < f.head2.toNat ∨ ∃ h, s.port.last = some h ∧ (f.head1 - h.time).toInt ≤ 0) :
    ¬s.accepts f = true := by
  rw [State.accepts, Bool.and_eq_true, decide_eq_true_eq, not_and]
  rintro ⟨least, most⟩
  simp only [framePeriod] at least most
  obtain ⟨last, held, early⟩ := (h.resolve_left (by omega)).resolve_left (by omega)
  simp only [held, later]
  exact fun late => absurd (of_decide_eq_true late) (not_lt.2 early)

end Sys2Proof.Machine

namespace Sys2Proof.Proofs

open Sys2Proof.Machine

/-- Settles O32: a frame that is refused is `refuseFrame`, whose one written run is the status record. -/
theorem cycleFrameRefused : Obligations.CycleFrameRefused := by
  intro f plan s low idle refused
  have run : exec (.cycleFrame f plan) s = .next (refuseFrame f s) := by
    rw [exec_cycleFrame low, finishFrame_idle idle, if_neg (State.not_accepts refused)]
  refine ⟨{ f with slots := s.writeStatus f.slots }, rfl, rfl, rfl, s.length_writeStatus _, fun i out => ?_, fun short => ?_,
    fun within events => ?_, fun again => ?_, fun first => ?_⟩
  · exact State.slotAt_writeStatus_outside (out.imp id .inl)
  · rw [State.writeStatus_short short]
  · exact s.statusShows_of_record events fun i h => State.slotAt_writeStatus_inside within h
  · rw [run]
    exact congrArg Host.Outcome.next (if_pos again)
  · rw [run]
    exact congrArg Host.Outcome.next (if_neg (by simp [first]))

/-- Settles O35: each field that lies within the frame carries its content, item by item. -/
theorem commandFields : Obligations.CommandFields := by
  intro f s sound
  obtain ⟨o, out, -, slots⟩ := acceptFrame_out f s
  have carries {p : Placed OutputField} (m : p ∈ s.commandFields) (within : p.base + p.len ≤ f.slots.length) {i : Nat} (h : i < p.len) :
      slotAt o.slots (p.base + i) = slotAt ((outputState f s).content (frameTime f) p.field) i := by
    rw [slots]
    exact slotAt_acceptedSlots_field f s sound m within h
  refine ⟨o, out, fun n loaded within => ?_, fun g loaded within => ?_, fun g loaded within => ?_, fun n c low hold within => ?_⟩
  · intro w lead
    have stand := outputState_stand f s n
    rw [if_pos ⟨loaded, within⟩] at stand
    have frameLead : (outputState f s).port.effectiveLead = lead := by rw [outputState_port, acceptFrame_port]; rfl
    have field {i : Nat} (h : i < 6) : w i = slotAt (standCommand ((outputState f s).stand n) f.head1 lead) i := by
      rw [← frameLead]
      exact carries ((s.mem_commandFields _).2 (.inl ⟨n, loaded, rfl⟩)) within h
    have freshness := congrArg Stand.freshness ((acceptFrame_stand f s n).trans stand)
    rw [stand] at field
    obtain ⟨counter, rotation, arm, brush, knife⟩ :=
      standCommand_items { s.stand n with freshness := (s.stand n).freshness + 1 } f.head1 lead
    rw [← field (by decide)] at counter rotation arm brush knife
    have two : w 2 = (carried (s.stand n).brushAt f.head1 lead).getD 0 := field (by decide)
    have three : w 3 = (carried (s.stand n).knifeAt f.head1 lead).getD 0 := field (by decide)
    have bit (k : Nat) : (w 0).getLsbD k = bitOf (w 0) k := rfl
    rw [bit, bit, brush, knife, two, three]
    exact ⟨counter, freshness, rotation, arm, (field (i := 1) (by decide)).trans (place_zero _), carried_isSome_iff ..,
      fun h => carried_getD _ _ _ h, fun h => carried_getD_none _ _ _ h, carried_isSome_iff .., fun h => carried_getD _ _ _ h,
      fun h => carried_getD_none _ _ _ h,
      field (i := 4) (by decide), field (i := 5) (by decide)⟩
  · intro w
    have gauge := outputState_gauge f s g
    rw [if_pos ⟨loaded, within⟩] at gauge
    have field {i : Nat} (h : i < 2) : w i = slotAt (gaugeCommand ((outputState f s).gauge g)) i :=
      carries ((s.mem_commandFields _).2 (.inr (.inl ⟨g, loaded, rfl⟩))) within h
    rw [gauge] at field
    rw [field (by decide), field (by decide)]
    obtain ⟨counter, order, stand, sequence⟩ := gaugeCommand_items { s.gauge g with freshness := (s.gauge g).freshness + 1 }
    refine ⟨counter, order.trans ?_, stand.trans ?_, sequence⟩
    · cases (s.gauge g).state <;> rfl
    · cases (s.gauge g).state <;> rfl
  · intro w
    have group := outputState_group f s g
    rw [if_pos ⟨loaded, within⟩] at group
    have field {i : Nat} (h : i < 2) : w i = slotAt (folderCommand ((outputState f s).group g)) i :=
      carries ((s.mem_commandFields _).2 (.inr (.inr (.inl ⟨g, loaded, rfl⟩)))) within h
    rw [group] at field
    rw [field (by decide), field (by decide)]
    exact folderCommand_items { s.group g with freshness := (s.group g).freshness + 1 }
  · have windows : (outputState f s).windows = s.windows :=
      (unitsOnly_outputState f s).windows.trans (sameUnits_based f s).windows
    obtain ⟨largest, prepared⟩ := (outputState f s).windowFor_largest (holdSlot (s.path n).table c)
    rw [windows] at largest prepared
    have slot := carries ((s.mem_commandFields _).2 (.inr (.inr (.inr ⟨n, mem_holdFields.2 ⟨c, low, hold, rfl⟩⟩)))) within
      (show 0 < 1 by decide)
    exact ⟨_, slot.trans (place_zero _), largest, prepared⟩

end Sys2Proof.Proofs
end

section
/-!
PROOFS. Ring loss (R31, R106, R107, R121, R165, R166): what one owner's act does, and that the acts of all owners add up in whatever
order they are taken.
-/

namespace Sys2Proof.Machine

/-! ### What ring loss makes of a stand and of a group -/

/-- R31: the states that ring loss makes a stand leave. -/
def StandState.leavesAtLoss : StandState → Bool
  | .waiting | .accelerating | .pasting _ => true
  | _ => false

/-- R31: what ring loss makes of a stand, by the state that it is in. -/
def Stand.LossRule (a b : Stand) : Prop :=
  match a.state with
  | .waiting => b.state = .ready ∧ b.urgent = false ∧ b.forced = false
  | .accelerating | .pasting .advance => b.state = .fault ∧ b.faultCode = some .ringLost ∧ b.rotation = .brake
  | .pasting .brush => b.state = .fault ∧ b.faultCode = some .pasteUnknown ∧ b.rotation = .brake
  | .pasting .cut => b.state = .fault ∧ b.faultCode = some .knifeFail ∧ b.rotation = .hold
  | _ => b = a

/-- R31: what ring loss makes of a stand; its records stay. -/
structure Stand.Lost (a b : Stand) : Prop where
  rule : a.LossRule b
  newReel : b.newReel = a.newReel
  expiring : b.expiring = a.expiring

/-- R31: a stand that ring loss does not move stays as it is. -/
theorem Stand.lossRule_stays {a b : Stand} (h : a.state.leavesAtLoss = false) : a.LossRule b ↔ b = a := by
  unfold Stand.LossRule
  cases e : a.state with
  | waiting | accelerating | pasting p => simp [e, StandState.leavesAtLoss] at h
  | _ => rfl

/-- R31: after ring loss a stand is in no state that ring loss makes it leave. -/
theorem Stand.Lost.stays {a b : Stand} (h : a.Lost b) : b.state.leavesAtLoss = false := by
  cases moves : a.state.leavesAtLoss with
  | false => rw [(Stand.lossRule_stays moves).1 h.rule, moves]
  | true =>
    have rule := h.rule
    unfold Stand.LossRule at rule
    cases e : a.state with
    | waiting | accelerating =>
      rw [e] at rule
      rw [rule.1]
      rfl
    | pasting p =>
      rw [e] at rule
      cases p <;> exact rule.1 ▸ rfl
    | _ => simp [e, StandState.leavesAtLoss] at moves

/-- R106, R107: what ring loss may make of a group: stands leave its waiting set, and a stand gives its lock back. -/
structure Group.Losing (a b : Group) : Prop where
  tracker : b.tracker = a.tracker
  held : b.held = a.held
  waiting : ∀ n : StandNo, b.waiting[n.val] = true → a.waiting[n.val] = true
  holder : b.holder = a.holder ∨ (∃ n, a.holder = .stand n) ∧ b.holder = .none

theorem Group.Losing.refl (a : Group) : a.Losing a := ⟨rfl, rfl, fun _ h => h, .inl rfl⟩

theorem Group.Losing.trans {a b c : Group} (h : a.Losing b) (k : b.Losing c) : a.Losing c where
  tracker := k.tracker.trans h.tracker
  held := k.held.trans h.held
  waiting n w := h.waiting n (k.waiting n w)
  holder := by
    rcases k.holder with same | ⟨⟨n, was⟩, none⟩
    · rw [same]
      exact h.holder
    · rcases h.holder with same' | ⟨-, none'⟩
      · exact .inr ⟨⟨n, same' ▸ was⟩, none⟩
      · rw [none'] at was
        exact Holder.noConfusion was

/-- R106: a stand that is not the holder does not become it. -/
theorem Group.Losing.holder_ne {a b : Group} (h : a.Losing b) {n : StandNo} (k : a.holder ≠ .stand n) : b.holder ≠ .stand n := by
  rcases h.holder with same | ⟨-, none⟩
  · rwa [same]
  · simp [none]

/-- A settled pending load leaves a group's lists and lock. -/
theorem losing_settleGroup (s : State) (g h : GroupNo) : (s.group h).Losing ((settleGroup g s).group h) := by
  obtain ⟨-, t, l, p, m, same⟩ := settleGroup_group s g h
  rw [same]
  exact ⟨rfl, rfl, fun _ w => w, .inl rfl⟩

theorem losing_giveBackLock (s : State) (n : StandNo) (h : GroupNo) : (s.group h).Losing ((giveBackLock n s).group h) := by
  cases holds : s.holdsLock n with
  | false =>
    rw [giveBackLock_of_not s n holds]
    exact .refl _
  | true =>
    rw [giveBackLock_of_holder s n holds, State.takeEvent_group]
    by_cases own : s.groupOf n = h
    · subst own
      rw [State.onGroup_group_self]
      exact ⟨rfl, rfl, fun _ w => w, .inr ⟨⟨n, by simpa [State.holdsLock] using holds⟩, rfl⟩⟩
    · rw [State.onGroup_group_ne _ _ _ _ own]
      exact .refl _

theorem giveBackLock_stand (s : State) (n m : StandNo) : (giveBackLock n s).stand m = s.stand m := by
  simp [State.stand]

/-! ### What one owner's act does -/

/-- R31, R106, R107: what a stand's act at ring loss does. -/
structure StandActs (n : StandNo) (s t : State) : Prop where
  windows : t.windows = s.windows
  gauges : t.gauges = s.gauges
  others : ∀ m, m ≠ n → t.stand m = s.stand m
  groups : ∀ g, (s.group g).Losing (t.group g)
  lost : (s.stand n).Lost (t.stand n)
  waits : (s.stand n).state = .waiting → (t.group (s.groupOf n)).waiting[n.val] = false
  holds : (s.stand n).state.mayHold = true → (t.group (s.groupOf n)).holder ≠ .stand n

theorem StandActs.gauge {n : StandNo} {s t : State} (acts : StandActs n s t) (g : GaugeNo) : t.gauge g = s.gauge g := by
  rw [State.gauge, acts.gauges]
  rfl

/-- Nothing comes due by a chain of changes. -/
theorem Changes.idle {s t : State} (h : Changes s t) (idle : s.frame.due = []) : t.frame.due = [] :=
  List.eq_nil_iff_forall_not_mem.2 fun w m => by simpa [idle] using h.onward.due w m

/-- R29: FAULT with its code, its event and its flag, before the lock is given back. -/
def faultAnnounced (n : StandNo) (c : FaultCode) (s : State) : State :=
  ((s.onStand n fun st => { st with state := .fault, faultCode := some c }).takeEvent (faultEvent c) (some n) none
    (some (faultNumber c))).raiseFlag n .fault

/-- R29: the items that the entry to FAULT writes last. -/
def Stand.halted (c : FaultCode) (st : Stand) : Stand :=
  { st with
    urgent := false, forced := false, schedule := none, rotation := faultRotation c, rotationRef := 0, arm := .retract, brushAt := none
    knifeAt := none }

/-- R29: the entry to FAULT before a pending group-table load is settled. -/
def faultEntry (n : StandNo) (c : FaultCode) (s : State) : State :=
  settleStand n ((giveBackLock n (faultAnnounced n c s)).onStand n (Stand.halted c))

/-- R29, R143: with no grant due, a pending group-table load is settled last. -/
theorem enterFault_idle {s : State} (idle : s.frame.due = []) (n : StandNo) (c : FaultCode) :
    enterFault n c s = settleGroup (s.groupOf n) (faultEntry n c s) := by
  have chain : Changes s (faultEntry n c s) :=
    ((((((Changes.none s).onStand n _).event ..).raiseFlag n _).giveBackLock n).onStand n _).settleStand n
  exact settleReleased_idle _ _ (chain.idle idle)

section

variable (s : State) (n : StandNo) (c : FaultCode)

theorem faultAnnounced_group (g : GroupNo) : (faultAnnounced n c s).group g = s.group g := by
  rw [faultAnnounced, State.raiseFlag_group]
  rfl

theorem faultAnnounced_stand_ne {m : StandNo} (other : m ≠ n) : (faultAnnounced n c s).stand m = s.stand m := by
  rw [faultAnnounced, State.raiseFlag_stand, State.takeEvent_stand, State.onStand_stand_ne _ _ _ _ other.symm]

theorem faultAnnounced_stand :
    (faultAnnounced n c s).stand n = { s.stand n with state := .fault, faultCode := some c } := by
  rw [faultAnnounced, State.raiseFlag_stand, State.takeEvent_stand, State.onStand_stand_self]

theorem faultAnnounced_rest : (faultAnnounced n c s).windows = s.windows ∧ (faultAnnounced n c s).gauges = s.gauges := by
  unfold faultAnnounced
  rw [State.raiseFlag_eq]
  split <;> exact ⟨rfl, rfl⟩

theorem faultEntry_rest : (faultEntry n c s).windows = s.windows ∧ (faultEntry n c s).gauges = s.gauges := by
  simp [faultEntry, faultAnnounced_rest]

theorem faultEntry_group (g : GroupNo) : (faultEntry n c s).group g = (giveBackLock n (faultAnnounced n c s)).group g := by
  rw [faultEntry, State.group, settleStand_groups]
  rfl

theorem losing_faultEntry (g : GroupNo) : (s.group g).Losing ((faultEntry n c s).group g) := by
  rw [faultEntry_group, ← faultAnnounced_group s n c g]
  exact losing_giveBackLock ..

/-- R5, R107: a stand that enters FAULT holds its group's lock no longer. -/
theorem faultEntry_holder : ((faultEntry n c s).group (s.groupOf n)).holder ≠ .stand n := by
  have given := giveBackLock_holder (faultAnnounced n c s) n
  rw [faultEntry_group]
  rwa [State.groupOf, faultAnnounced_stand] at given

theorem faultEntry_stand_ne {m : StandNo} (other : m ≠ n) : (faultEntry n c s).stand m = s.stand m := by
  rw [faultEntry, (settleStand_stand _ n m).1 other, State.onStand_stand_ne _ _ _ _ other.symm, giveBackLock_stand,
    faultAnnounced_stand_ne s n c other]

theorem faultEntry_stand : ∃ t l p m, (faultEntry n c s).stand n =
    { Stand.halted c { s.stand n with state := .fault, faultCode := some c } with
      table := t, loaded := l, pendingLoad := p, monitor := m } := by
  obtain ⟨-, t, l, p, m, settled⟩ := settleStand_stand ((giveBackLock n (faultAnnounced n c s)).onStand n (Stand.halted c)) n n
  rw [State.onStand_stand_self, giveBackLock_stand, faultAnnounced_stand] at settled
  exact ⟨t, l, p, m, settled⟩

end

/-- R29, R31: a splicing stand's entry to FAULT, between two frames' work. -/
theorem standActs_enterFault {s : State} (idle : s.frame.due = []) {n : StandNo} {c : FaultCode} (splices : (s.stand n).state ≠ .waiting)
    (rule : ∀ b : Stand, b.state = .fault → b.faultCode = some c → b.rotation = faultRotation c → (s.stand n).LossRule b) :
    StandActs n s (enterFault n c s) := by
  rw [enterFault_idle idle]
  obtain ⟨windows, gauges⟩ := faultEntry_rest s n c
  have stands (m : StandNo) : (settleGroup (s.groupOf n) (faultEntry n c s)).stand m = (faultEntry n c s).stand m := by
    simp [State.stand]
  constructor
  case windows => rw [settleGroup_windows, windows]
  case gauges => rw [settleGroup_gauges, gauges]
  case others => exact fun m other => (stands m).trans (faultEntry_stand_ne s n c other)
  case groups => exact fun g => (losing_faultEntry s n c g).trans (losing_settleGroup _ _ g)
  case lost =>
    obtain ⟨t, l, p, m, stand⟩ := faultEntry_stand s n c
    rw [stands, stand]
    exact ⟨rule _ rfl rfl rfl, rfl, rfl⟩
  case waits => exact fun waiting => absurd waiting splices
  case holds => exact fun _ => (losing_settleGroup _ _ _).holder_ne (faultEntry_holder s n c)

/-- R31: a waiting stand leaves its waiting set. -/
theorem standActs_waiting {s : State} {n : StandNo} (waiting : (s.stand n).state = .waiting) :
    StandActs n s (settleStand n ((withdrawWait n s).onStand n fun st => { st with state := .ready })) := by
  have group (g : GroupNo) : (settleStand n ((withdrawWait n s).onStand n fun st => { st with state := .ready })).group g =
      (leaveWaiting n s).group g := by
    rw [State.group, settleStand_groups]
    rfl
  constructor
  case windows => simp [withdrawWait, leaveWaiting]
  case gauges => simp [withdrawWait, leaveWaiting]
  case others =>
    intro m other
    rw [(settleStand_stand _ n m).1 other, State.onStand_stand_ne _ _ _ _ other.symm, withdrawWait,
      State.onStand_stand_ne _ _ _ _ other.symm]
    rfl
  case groups =>
    intro g
    rw [group, leaveWaiting]
    by_cases own : s.groupOf n = g
    · subst own
      rw [State.onGroup_group_self]
      refine ⟨rfl, rfl, fun k w => ?_, .inl rfl⟩
      by_cases same : n = k
      · subst same
        simp at w
      · simpa [Vector.getElem_set, Fin.val_inj, same] using w
    · rw [State.onGroup_group_ne _ _ _ _ own]
      exact .refl _
  case lost =>
    obtain ⟨-, t, l, p, m, settled⟩ := settleStand_stand ((withdrawWait n s).onStand n fun st => { st with state := .ready }) n n
    rw [State.onStand_stand_self, withdrawWait, State.onStand_stand_self] at settled
    rw [withdrawWait, settled]
    exact ⟨by simp [Stand.LossRule, waiting], rfl, rfl⟩
  case waits =>
    intro _
    rw [group, leaveWaiting, State.onGroup_group_self]
    simp
  case holds => exact fun holds => by simp [waiting, StandState.mayHold] at holds

/-- R31: a stand in a state that ring loss makes it leave acts. -/
theorem standActs {s : State} (idle : s.frame.due = []) {n : StandNo} (moves : (s.stand n).state.leavesAtLoss = true) :
    StandActs n s (standRingLoss n s) := by
  unfold standRingLoss
  have fault (c : FaultCode) (splices : (s.stand n).state ≠ .waiting) (rule) := standActs_enterFault (c := c) idle splices rule
  cases e : (s.stand n).state with
  | waiting => exact standActs_waiting e
  | accelerating => exact fault _ (by simp [e]) fun b x y z => by simpa [Stand.LossRule, e] using ⟨x, y, z⟩
  | pasting p =>
    cases p with
    | advance => exact fault _ (by simp [e]) fun b x y z => by simpa [Stand.LossRule, e] using ⟨x, y, z⟩
    | brush => exact fault _ (by simp [e]) fun b x y z => by simpa [Stand.LossRule, e] using ⟨x, y, z⟩
    | cut => exact fault _ (by simp [e]) fun b x y z => by simpa [Stand.LossRule, e] using ⟨x, y, z⟩
  | _ => simp [e, StandState.leavesAtLoss] at moves

/-- R31: any other stand does nothing. -/
theorem standRingLoss_stays {s : State} {n : StandNo} (stays : (s.stand n).state.leavesAtLoss = false) : standRingLoss n s = s := by
  unfold standRingLoss
  cases e : (s.stand n).state with
  | waiting | accelerating | pasting p => simp [e, StandState.leavesAtLoss] at stays
  | _ => rfl

/-- R121: what the act of a MEASURING gauge at ring loss does. -/
structure GaugeActs (g : GaugeNo) (n : StandNo) (s t : State) : Prop where
  windows : t.windows = s.windows
  groups : t.groups = s.groups
  others : ∀ m, m ≠ n → t.stand m = s.stand m
  gauges : ∀ h, h ≠ g → t.gauge h = s.gauge h
  queue : (t.gauge g).queue = (s.gauge g).queue
  idle : (t.gauge g).state = .idle
  loaded : (t.stand n).state = .loaded
  newReel : (t.stand n).newReel = (s.stand n).newReel
  expiring : (t.stand n).expiring = (s.stand n).expiring

theorem GaugeActs.group {g : GaugeNo} {n : StandNo} {s t : State} (acts : GaugeActs g n s t) (h : GroupNo) : t.group h = s.group h := by
  rw [State.group, acts.groups]
  rfl

theorem gaugeActs (s : State) (g : GaugeNo) (n : StandNo) : GaugeActs g n s (timeoutMeasure g n s) := by
  have stands (m : StandNo) : (timeoutMeasure g n s).stand m =
      (settleStand n ((s.takeEvent .gaugeTimeout (some n) (some (.gauge g)) none).onStand n fun st => { st with state := .loaded })).stand m := by
    simp [timeoutMeasure, becomeIdle, State.stand]
  obtain ⟨-, t, l, p, m, settled⟩ := settleStand_stand
    ((s.takeEvent .gaugeTimeout (some n) (some (.gauge g)) none).onStand n fun st => { st with state := .loaded }) n n
  have gauge (h : GaugeNo) : (settleStand n ((s.takeEvent .gaugeTimeout (some n) (some (.gauge g)) none).onStand n fun st =>
      { st with state := .loaded })).gauge h = s.gauge h := by
    rw [State.gauge, settleStand_gauges]
    rfl
  constructor
  case windows => simp [timeoutMeasure, becomeIdle]
  case groups => simp [timeoutMeasure, becomeIdle]
  case others =>
    intro m other
    rw [stands, (settleStand_stand _ n m).1 other, State.onStand_stand_ne _ _ _ _ other.symm, State.takeEvent_stand]
  case gauges =>
    intro h other
    rw [timeoutMeasure, becomeIdle, (settleGauge_gauge _ g h).1 other, State.onGauge_gauge_ne _ _ _ _ other.symm, gauge]
  case queue =>
    obtain ⟨-, t, l, p, m, settled⟩ := settleGauge_gauge ((settleStand n ((s.takeEvent .gaugeTimeout (some n) (some (.gauge g)) none).onStand n
      fun st => { st with state := .loaded })).onGauge g fun u => { u with state := .idle }) g g
    rw [timeoutMeasure, becomeIdle, settled, State.onGauge_gauge_self, gauge]
  case idle => exact becomeIdle_state ..
  case loaded => rw [stands, settled, State.onStand_stand_self]
  case newReel => rw [stands, settled, State.onStand_stand_self, State.takeEvent_stand]
  case expiring => rw [stands, settled, State.onStand_stand_self, State.takeEvent_stand]

/-- R121: what ring loss makes of a gauge's state. -/
def GaugeState.afterLoss : GaugeState → GaugeState
  | .measuring _ _ => .idle
  | x => x

/-- R121: a gauge outside MEASURING does nothing. -/
theorem gaugeRingLoss_stays {s : State} {g : GaugeNo} (stays : ∀ n, (s.gauge g).measures n = false) :
    gaugeRingLoss g s = s ∧ (s.gauge g).state.afterLoss = (s.gauge g).state := by
  unfold gaugeRingLoss
  cases e : (s.gauge g).state with
  | measuring n d => exact absurd (((s.gauge g).measures_iff n).2 ⟨d, e⟩) (by simp [stays n])
  | idle | cancelling => exact ⟨rfl, rfl⟩

theorem gaugeRingLoss_measures {s : State} {g : GaugeNo} {n : StandNo} (measures : (s.gauge g).measures n = true) :
    gaugeRingLoss g s = timeoutMeasure g n s ∧ (s.gauge g).state.afterLoss = .idle := by
  obtain ⟨d, e⟩ := ((s.gauge g).measures_iff n).1 measures
  unfold gaugeRingLoss
  rw [e]
  exact ⟨rfl, rfl⟩

/-! ### The owners in turn -/

/-- R106: the stand is in no waiting set and the holder of no lock. -/
def State.Clear (s : State) (n : StandNo) : Prop := ∀ g, (s.group g).waiting[n.val] = false ∧ (s.group g).holder ≠ .stand n

theorem State.Clear.of_losing {s t : State} {n : StandNo} (h : s.Clear n) (groups : ∀ g, (s.group g).Losing (t.group g)) : t.Clear n := by
  intro g
  obtain ⟨waiting, holder⟩ := h g
  refine ⟨?_, (groups g).holder_ne holder⟩
  by_contra w
  simp [(groups g).waiting n (by simpa using w)] at waiting

/-- R113: a gauge measures the stand. -/
def State.measured (s : State) (n : StandNo) : Prop := ∃ g, (s.gauge g).measures n = true

/-- R166: how a state stands to the one in which the ring was lost, while the owners act in turn: each stand has acted or is as it was. -/
structure LossStage (s u : State) : Prop where
  idle : u.frame.due = []
  windows : u.windows = s.windows
  groups : ∀ g, (s.group g).Losing (u.group g)
  gauges : ∀ g, (u.gauge g).queue = (s.gauge g).queue ∧
    (u.gauge g = s.gauge g ∨ ∃ n, (s.gauge g).measures n = true ∧ (u.gauge g).state = .idle ∧ (u.stand n).state = .loaded)
  stands : ∀ n, u.stand n = s.stand n ∨ (¬s.measured n ∧ (s.stand n).Lost (u.stand n) ∧ u.Clear n) ∨
    (s.measured n ∧ (u.stand n).state = .loaded ∧ (u.stand n).newReel = (s.stand n).newReel ∧
      (u.stand n).expiring = (s.stand n).expiring)

/-- R166: what an owner's act leaves for good. -/
def LossDone (s u : State) : LossOwner → Prop
  | .stand n => ¬s.measured n → (s.stand n).Lost (u.stand n) ∧ u.Clear n
  | .gauge g => (u.gauge g).state = (s.gauge g).state.afterLoss ∧ ∀ n, (s.gauge g).measures n = true → (u.stand n).state = .loaded

section

variable {s u : State} (sound : s.Sound) (stage : LossStage s u)
include sound

theorem ranging_of_measured {n : StandNo} (h : s.measured n) : (s.stand n).state = .ranging := by
  obtain ⟨g, measures⟩ := h
  obtain ⟨-, queued, -⟩ := sound.gauges
  exact (queued g n (.inr measures)).1

/-- R95, R96: a stand that ring loss does not move is in no waiting set and holds no lock. -/
theorem clear_of_stays {n : StandNo} (stays : (s.stand n).state.leavesAtLoss = false) : s.Clear n := by
  obtain ⟨waiting, holder, -⟩ := sound.locks
  intro g
  refine ⟨?_, fun holds => ?_⟩
  · by_contra w
    have state := ((waiting g n).1 (by simpa using w)).1
    simp [state, StandState.leavesAtLoss] at stays
  · have mayHold := (holder g n holds).2
    cases e : (s.stand n).state with
    | accelerating => simp [e, StandState.leavesAtLoss] at stays
    | pasting p => simp [e, StandState.leavesAtLoss] at stays
    | _ => simp [e, StandState.mayHold] at mayHold

include stage

/-- R166: a stand that ring loss would still move is as it was when the ring was lost. -/
theorem LossStage.same_of_leaves {n : StandNo} (moves : (u.stand n).state.leavesAtLoss = true) :
    u.stand n = s.stand n ∧ ¬s.measured n := by
  rcases stage.stands n with same | ⟨-, lost, -⟩ | ⟨-, loaded, -⟩
  · refine ⟨same, fun measured => ?_⟩
    rw [same, ranging_of_measured sound measured] at moves
    simp [StandState.leavesAtLoss] at moves
  · simp [lost.stays] at moves
  · simp [loaded, StandState.leavesAtLoss] at moves

/-- R106, R107: a stand that has acted is in no waiting set and holds no lock. -/
theorem LossStage.clear {n : StandNo} (same : u.stand n = s.stand n) {t : State} (acts : StandActs n u t) : t.Clear n := by
  obtain ⟨waiting, holder, -⟩ := sound.locks
  have groupOf : u.groupOf n = s.groupOf n := by rw [State.groupOf, same]; rfl
  intro g
  refine ⟨?_, fun holds => ?_⟩
  · by_contra w
    have w : (t.group g).waiting[n.val] = true := by simpa using w
    obtain ⟨state, own⟩ := (waiting g n).1 ((stage.groups g).waiting n ((acts.groups g).waiting n w))
    have left := acts.waits (same ▸ state)
    rw [groupOf, own, w] at left
    exact Bool.noConfusion left
  · have was : (s.group g).holder = .stand n := by
      by_contra other
      exact (acts.groups g).holder_ne ((stage.groups g).holder_ne other) holds
    obtain ⟨own, mayHold⟩ := holder g n was
    refine acts.holds (same ▸ mayHold) ?_
    rw [groupOf, own]
    exact holds

/-- R166: a stand's act is the next stage, and is done for good. -/
theorem LossStage.stand (n : StandNo) : LossStage s (loseAt u (.stand n)) ∧ LossDone s (loseAt u (.stand n)) (.stand n) := by
  show LossStage s (standRingLoss n u) ∧ LossDone s (standRingLoss n u) (.stand n)
  cases moves : (u.stand n).state.leavesAtLoss with
  | false =>
    rw [standRingLoss_stays moves]
    refine ⟨stage, fun other => ?_⟩
    rcases stage.stands n with same | ⟨-, done⟩ | ⟨measured, -⟩
    · rw [same] at moves ⊢
      exact ⟨⟨(Stand.lossRule_stays moves).2 rfl, rfl, rfl⟩, (clear_of_stays sound moves).of_losing stage.groups⟩
    · exact done
    · exact absurd measured other
  | true =>
    have acts := standActs stage.idle moves
    obtain ⟨same, other⟩ := stage.same_of_leaves sound moves
    have clear := stage.clear sound same acts
    have lost : (s.stand n).Lost ((standRingLoss n u).stand n) := same ▸ acts.lost
    refine ⟨⟨((Changes.none u).standRingLoss n).idle stage.idle, acts.windows.trans stage.windows,
      fun g => (stage.groups g).trans (acts.groups g), fun g => ?_, fun m => ?_⟩, fun _ => ⟨lost, clear⟩⟩
    · rw [acts.gauge]
      obtain ⟨queue, state⟩ := stage.gauges g
      refine ⟨queue, state.imp id fun ⟨m, measures, idle, loaded⟩ => ⟨m, measures, idle, ?_⟩⟩
      rw [acts.others m fun e => by simp [← e, loaded, StandState.leavesAtLoss] at moves]
      exact loaded
    · by_cases own : m = n
      · subst own
        exact .inr (.inl ⟨other, lost, clear⟩)
      · rw [acts.others m own]
        exact (stage.stands m).imp id (Or.imp (fun ⟨x, y, z⟩ => ⟨x, y, z.of_losing acts.groups⟩) id)

omit sound in
/-- R166: a gauge that measures at a stage measures as it did when the ring was lost. -/
theorem LossStage.measures {g : GaugeNo} {n : StandNo} (h : (u.gauge g).measures n = true) : (s.gauge g).measures n = true := by
  rcases (stage.gauges g).2 with same | ⟨m, -, idle, -⟩
  · rwa [same] at h
  · obtain ⟨d, e⟩ := ((u.gauge g).measures_iff n).1 h
    simp [idle] at e

omit sound stage in
/-- R112: a gauge measures one stand at a time. -/
theorem measures_unique {g : Gauge} {m n : StandNo} (h : g.measures m = true) (k : g.measures n = true) : m = n := by
  obtain ⟨d, e⟩ := (g.measures_iff m).1 h
  obtain ⟨d', e'⟩ := (g.measures_iff n).1 k
  rw [e] at e'
  exact (GaugeState.measuring.inj e').1

omit sound in
/-- R121: a gauge's act is the next stage, and is done for good. -/
theorem LossStage.gauge (g : GaugeNo) : LossStage s (loseAt u (.gauge g)) ∧ LossDone s (loseAt u (.gauge g)) (.gauge g) := by
  show LossStage s (gaugeRingLoss g u) ∧ LossDone s (gaugeRingLoss g u) (.gauge g)
  by_cases measuring : ∃ n, (u.gauge g).measures n = true
  · obtain ⟨n, measures⟩ := measuring
    have was := stage.measures measures
    have acts := gaugeActs u g n
    rw [(gaugeRingLoss_measures measures).1]
    refine ⟨⟨((Changes.none u).timeoutMeasure g n).idle stage.idle, acts.windows.trans stage.windows,
      fun h => by rw [acts.group]; exact stage.groups h, fun h => ?_, fun m => ?_⟩, ?_, fun m other => ?_⟩
    · obtain ⟨queue, state⟩ := stage.gauges h
      by_cases own : h = g
      · subst own
        exact ⟨acts.queue.trans queue, .inr ⟨n, was, acts.idle, acts.loaded⟩⟩
      · rw [acts.gauges h own]
        refine ⟨queue, state.imp id fun ⟨m, measures, idle, loaded⟩ => ⟨m, measures, idle, ?_⟩⟩
        by_cases same : m = n
        · exact same ▸ acts.loaded
        · rw [acts.others m same, loaded]
    · by_cases own : m = n
      · subst own
        have records : (u.stand m).newReel = (s.stand m).newReel ∧ (u.stand m).expiring = (s.stand m).expiring := by
          rcases stage.stands m with same | ⟨-, lost, -⟩ | ⟨-, -, records⟩
          · rw [same]
            exact ⟨rfl, rfl⟩
          · exact ⟨lost.newReel, lost.expiring⟩
          · exact records
        exact .inr (.inr ⟨⟨g, was⟩, acts.loaded, acts.newReel.trans records.1, acts.expiring.trans records.2⟩)
      · rw [acts.others m own]
        exact (stage.stands m).imp id (Or.imp (fun ⟨x, y, z⟩ => ⟨x, y, fun h => by rw [acts.group]; exact z h⟩) id)
    · rw [acts.idle, (gaugeRingLoss_measures was).2]
    · rw [measures_unique other was, acts.loaded]
  · have stays (n : StandNo) : (u.gauge g).measures n = false := by simpa using not_exists.1 measuring n
    rw [(gaugeRingLoss_stays stays).1]
    refine ⟨stage, ?_⟩
    rcases (stage.gauges g).2 with same | ⟨n, measures, idle, loaded⟩
    · rw [same] at stays
      exact ⟨by rw [same, (gaugeRingLoss_stays stays).2], fun n measures => by simp [stays n] at measures⟩
    · exact ⟨by rw [idle, (gaugeRingLoss_measures measures).2], fun m other => by rw [measures_unique other measures, loaded]⟩

omit sound in
/-- R166: what an owner has done stays done while the others act. -/
theorem LossStage.keeps {o p : LossOwner} (other : o ≠ p) (done : LossDone s u p) : LossDone s (loseAt u o) p := by
  cases o with
  | stand m =>
    show LossDone s (standRingLoss m u) p
    cases moves : (u.stand m).state.leavesAtLoss with
    | false => rwa [standRingLoss_stays moves]
    | true =>
      have acts := standActs stage.idle moves
      cases p with
      | stand n =>
        intro unmeasured
        obtain ⟨lost, clear⟩ := done unmeasured
        rw [acts.others n fun e => other (e ▸ rfl)]
        exact ⟨lost, clear.of_losing acts.groups⟩
      | gauge g =>
        obtain ⟨state, loaded⟩ := done
        refine ⟨by rw [acts.gauge, state], fun n measures => ?_⟩
        rw [acts.others n fun e => by simp [← e, loaded n measures, StandState.leavesAtLoss] at moves]
        exact loaded n measures
  | gauge g =>
    show LossDone s (gaugeRingLoss g u) p
    by_cases measuring : ∃ n, (u.gauge g).measures n = true
    · obtain ⟨k, measures⟩ := measuring
      have was := stage.measures measures
      have acts := gaugeActs u g k
      rw [(gaugeRingLoss_measures measures).1]
      cases p with
      | stand n =>
        intro unmeasured
        obtain ⟨lost, clear⟩ := done unmeasured
        rw [acts.others n fun e => unmeasured ⟨g, e ▸ was⟩]
        exact ⟨lost, clear.of_losing fun h => by rw [acts.group]; exact .refl _⟩
      | gauge h =>
        obtain ⟨state, loaded⟩ := done
        refine ⟨by rw [acts.gauges h fun e => other (e ▸ rfl), state], fun n measured => ?_⟩
        by_cases same : n = k
        · exact same ▸ acts.loaded
        · rw [acts.others n same, loaded n measured]
    · rwa [(gaugeRingLoss_stays fun n => by simpa using not_exists.1 measuring n).1]

omit stage in
/-- R166: once every owner has acted, in whatever order, each has done its part. -/
theorem lossDone_foldl (order : List LossOwner) (start : LossStage s u) :
    LossStage s (order.foldl loseAt u) ∧ ∀ o ∈ order, LossDone s (order.foldl loseAt u) o := by
  have next (v : State) (o : LossOwner) (h : LossStage s v) : LossStage s (loseAt v o) ∧ LossDone s (loseAt v o) o := by
    cases o with
    | stand n => exact h.stand sound n
    | gauge g => exact h.gauge g
  obtain ⟨stage, done⟩ := foldl_brings (f := loseAt) (Q := LossStage s) (P := fun v o => LossStage s v ∧ LossDone s v o)
    (fun v o h => next v o h)
    (fun v o p other ⟨h, d⟩ => ⟨(next v o h).1, h.keeps other d⟩) (fun v o h => (next v o h).1) order start
  exact ⟨stage, fun o m => (done o (.inl m)).2⟩

end

/-- R165, R166: the timer stopped and the ring LOST, with RING_LOST, before any owner acts. -/
def lossDeclared (s : State) : State :=
  ((s.onPort fun p => { p with timer := none }).onPort fun p => { p with ring := .lost }).takeEvent .ringLost none none none

theorem lossStage_lossDeclared {s : State} (idle : s.frame.due = []) : LossStage s (lossDeclared s) :=
  ⟨idle, rfl, fun _ => .refl _, fun _ => ⟨rfl, .inl rfl⟩, fun _ => .inl rfl⟩

theorem lossDeclared_events {s : State} (room : s.responder.events.length < 32) :
    ∃ e, (lossDeclared s).responder.events = s.responder.events ++ [e] ∧ e.kind = .ringLost ∧ e.stand = none :=
  ⟨_, (State.takeEvent_events ..).trans (if_pos room), rfl, rfl⟩

/-- R166: every owner acts. -/
theorem mem_lossOrder (order : List LossOwner) (o : LossOwner) : o ∈ lossOrder order := by
  by_cases named : o ∈ order
  · exact List.mem_append_left _ (List.mem_eraseDups.2 named)
  · refine List.mem_append_right _ (List.mem_filter.2 ⟨?_, by simpa using named⟩)
    cases o <;> simp [lossOwners]

/-! ### The events (R179) -/

/-- R179: changes add events at the tail of the queue and take none away. -/
theorem Change.events {s t : State} (h : Change s t) : ∃ rest, t.responder.events = s.responder.events ++ rest := by
  have none : ∃ rest, s.responder.events = s.responder.events ++ rest := ⟨[], (List.append_nil _).symm⟩
  have event {u : State} (k : EventKind) (a : Option StandNo) (b : Option EventUnit) (d : Option Nat)
      (same : u.responder.events = s.responder.events) : ∃ rest, (u.takeEvent k a b d).responder.events = s.responder.events ++ rest := by
    rw [State.takeEvent_events, same]
    split
    · exact ⟨_, rfl⟩
    · exact none
  cases h with
  | onStand | onGroup | onGauge | onFrame | windows | flags => exact none
  | event => exact event _ _ _ _ rfl
  | standLoad n =>
    unfold releaseStandLoad applyStandLoad
    split
    · exact event _ _ _ _ (by simp)
    · exact none
  | gaugeLoad g =>
    unfold releaseGaugeLoad applyGaugeLoad
    split
    · exact event _ _ _ _ (by simp)
    · exact none
  | groupLoad g =>
    unfold releaseGroupLoad applyGroupLoad
    split
    · exact event _ _ _ _ (by simp)
    · exact none
  | pathLoad n =>
    unfold releasePathLoad applyPathLoad
    split
    · exact event _ _ _ _ rfl
    · exact none

theorem Changes.events {s t : State} (h : Changes s t) : ∃ rest, t.responder.events = s.responder.events ++ rest := by
  induction h with
  | refl => exact ⟨[], (List.append_nil _).symm⟩
  | tail _ step ih =>
    obtain ⟨a, e⟩ := ih
    obtain ⟨b, e'⟩ := step.events
    exact ⟨a ++ b, by rw [e', e, List.append_assoc]⟩

end Sys2Proof.Machine

namespace Sys2Proof.Proofs

open Sys2Proof.Machine

/-- Settles O39: once every owner has acted (`lossDone_foldl`), each stand, gauge and group is where its rule puts it. -/
theorem ringLoss : Obligations.RingLoss := by
  intro order s low idle
  refine ⟨fun stopped => ?_, fun running lost => ?_, fun running up sound => ?_⟩
  · exact congrArg Host.Outcome.next (if_pos (by simp [stopped]))
  · rw [exec_ringLoss low running, finishFrame_idle idle]
    exact congrArg Host.Outcome.next (if_neg (by simp [lost]))
  · rw [exec_ringLoss low running, finishFrame_idle idle]
    have run : declareLoss order (s.onPort fun p => { p with timer := none }) = (lossOrder order).foldl loseAt (lossDeclared s) := rfl
    refine ⟨_, congrArg Host.Outcome.next ((if_pos up).trans run), ?_⟩
    obtain ⟨stage, done⟩ := lossDone_foldl sound (lossOrder order) (lossStage_lossDeclared idle)
    have chain := Changes.foldl Changes.loseAt (lossOrder order) (.none (lossDeclared s))
    generalize (lossOrder order).foldl loseAt (lossDeclared s) = t at stage done chain ⊢
    have port := chain.samePort
    refine ⟨port.port, port.out, stage.windows, fun room => ?_, fun n => ?_, fun g => ?_⟩
    · obtain ⟨rest, events⟩ := chain.events
      obtain ⟨e, declared, kind, stand⟩ := lossDeclared_events room
      rw [declared, List.append_assoc] at events
      exact ⟨e, rest, events, kind, stand⟩
    · obtain ⟨-, measuredRanging, -⟩ := sound.gauges
      have own := done (.stand n) (mem_lossOrder order _)
      have rule (h : (s.stand n).state ≠ .ranging) : (s.stand n).LossRule (t.stand n) :=
        (own fun measured => h (ranging_of_measured sound measured)).1.rule
      have records : (t.stand n).newReel = (s.stand n).newReel ∧ (t.stand n).expiring = (s.stand n).expiring := by
        rcases stage.stands n with same | ⟨-, lost, -⟩ | ⟨-, -, records⟩
        · rw [same]
          exact ⟨rfl, rfl⟩
        · exact ⟨lost.newReel, lost.expiring⟩
        · exact records
      refine ⟨fun e => ?_, fun e => ?_, fun e => ?_, fun e => ?_, fun g measures => ?_, fun e unmeasured => ?_, fun e => ?_, records⟩
      · simpa [Stand.LossRule, e] using rule (by simp [e])
      · simp only [List.mem_cons, List.not_mem_nil, or_false] at e
        rcases e with e | e <;> simpa [Stand.LossRule, e] using rule (by simp [e])
      · simpa [Stand.LossRule, e] using rule (by simp [e])
      · simpa [Stand.LossRule, e] using rule (by simp [e])
      · exact (done (.gauge g) (mem_lossOrder order _)).2 n measures
      · have lost := (own fun ⟨g, measures⟩ => by simp [unmeasured g] at measures).1.rule
        exact (Stand.lossRule_stays (by simp [e, StandState.leavesAtLoss])).1 lost
      · have stays : (s.stand n).state.leavesAtLoss = false ∧ (s.stand n).state ≠ .ranging := by
          simp only [List.mem_cons, List.not_mem_nil, or_false] at e
          rcases e with e | e | e | e | e | e <;> rw [e] <;> exact ⟨rfl, nofun⟩
        exact (Stand.lossRule_stays stays.1).1 (rule stays.2)
    · have clear (n : StandNo) : t.Clear n := by
        by_cases measured : s.measured n
        · have stays : (s.stand n).state.leavesAtLoss = false := by rw [ranging_of_measured sound measured]; rfl
          exact (clear_of_stays sound stays).of_losing stage.groups
        · exact (done (.stand n) (mem_lossOrder order _) measured).2
      obtain ⟨tracker, held, -, holder⟩ := stage.groups g
      refine ⟨(stage.gauges g).1, tracker, ?_, held, fun n => (clear n g).1, (done (.gauge g) (mem_lossOrder order _)).1⟩
      rcases holder with same | ⟨⟨n, was⟩, none⟩
      · cases e : (s.group g).holder with
        | stand n => exact absurd (same.trans e) (clear n g).2
        | none | entry => exact same.trans e
      · rw [none, was]

end Sys2Proof.Proofs
end
